-- ==== Sys2Proof/Word.lean ====
section
/-! DEFINITION. The word types of HUFF (spec/00_scope.md R7, R9; spec/10_state.md R22). -/

namespace Sys2Proof

/-- A host register, a command word, a counter: 32 bits (R7, R22). -/
abbrev Word := BitVec 32

/-- A stream byte or a symbol: 8 bits (R7). -/
abbrev Byte := BitVec 8

/-- An index into the node store NODE[0..510]: 9 bits (R47). -/
abbrev NodeIx := BitVec 9

end Sys2Proof
end

