-- ==== Sys2Proof/Config.lean ====
section
/-! DEFINITION. What one implementation of HUFF fixes (spec/00_scope.md R8), and the free values
the spec leaves open (R54 of spec/10_state.md, R69 of spec/20_memory.md). -/

namespace Sys2Proof

/-- The open parameters of R8. They are data of the machine that no event changes, so a statement
about every state is a statement about every parameter value. -/
structure Params where
  /-- HUFF_BASE: the host address of offset 0 of the register window. -/
  base : Nat
  /-- IN_FIFO_DEPTH. -/
  inDepth : BitVec 12
  /-- OUT_FIFO_DEPTH. -/
  outDepth : BitVec 12
  deriving DecidableEq, Repr

/-- The parameters State.reset is written with. DESIGN CHOICE (log entry 1): the spec leaves them
open; 64 and 64 are the depths of the vectors of spec/95_test_vectors.md 2.11. UNSAFE for a claim
that rests on them. -/
def Params.default : Params where
  base := 0
  inDepth := 64
  outDepth := 64

/-- Free value (log entry 5): what the n-th draw returns where R54 says a read is unspecified. -/
opaque Config.freeWord : Nat → Word

/-- Free value (log entry 4): whether the host moves at the n-th free choice between the two
agents, where R69 leaves the interleaving open. -/
opaque Config.freeTurn : Nat → Bool

end Sys2Proof
end

