-- ==== Sys2Proof/Syntax.lean ====
section
/-! DEFINITION. The instructions of HUFF: the seven commands of spec/opcode_table.json. -/

namespace Sys2Proof

/-- A command (spec/30_encoding.md R81). No command has an operand field: every operand is an
input or output FIFO or internal state (R80). -/
inductive Instr where
  /-- CLEAR, 0x00000001 (R116). -/
  | clear
  /-- COUNT, 0x00000002 (R160). -/
  | count
  /-- BUILD, 0x00000003 (R170). -/
  | build
  /-- WRITE_HEADER, 0x00000004 (R190). -/
  | writeHeader
  /-- ENCODE, 0x00000005 (R210). -/
  | encode
  /-- READ_HEADER, 0x00000006 (R195). -/
  | readHeader
  /-- DECODE, 0x00000007 (R220). -/
  | decode
  deriving DecidableEq, Repr

end Sys2Proof
end

