-- ==== Sys2Proof/WellFormed.lean ====
section
/-! DEFINITION. Well-formedness of commands, of command words and of the parameters. -/

namespace Sys2Proof

/-- A command has no operand fields (R80 of spec/30_encoding.md), so there is nothing an
instruction could hold that its encoding does not admit: each of the seven is well-formed. -/
def Instr.wellFormed : Instr → Bool
  | .clear => true
  | .count => true
  | .build => true
  | .writeHeader => true
  | .encode => true
  | .readHeader => true
  | .decode => true

/-- Check 1 on a command word: the field MBZ, bits [31:8], is zero (R80). -/
def wordMbzOk (w : Word) : Bool := w.extractLsb' 8 24 == 0

/-- Check 2 on a command word: the field OPCODE, bits [7:0], is one of the opcodes of R81. -/
def wordOpcodeOk (w : Word) : Bool :=
  1 ≤ (w.extractLsb' 0 8).toNat && (w.extractLsb' 0 8).toNat ≤ 7

/-- A command word of the table (R80, R81). -/
def wordWellFormed (w : Word) : Bool := wordMbzOk w && wordOpcodeOk w

/-- HUFF_BASE is 256-byte-aligned (R8 of spec/00_scope.md). -/
def Params.baseOk (p : Params) : Bool := p.base % 256 == 0

/-- IN_FIFO_DEPTH is 1 to 4095 (R8). The upper bound is the field's width. -/
def Params.inDepthOk (p : Params) : Bool := p.inDepth != 0

/-- OUT_FIFO_DEPTH is 1 to 4095 (R8). -/
def Params.outDepthOk (p : Params) : Bool := p.outDepth != 0

/-- The parameters are in the ranges of R8. -/
def Params.wellFormed (p : Params) : Bool := p.baseOk && p.inDepthOk && p.outDepthOk

end Sys2Proof
end

