-- ==== Sys2Proof/Decode.lean ====
section
/-! DEFINITION. The command decoder and encoder (spec/30_encoding.md R80 to R85). -/

namespace Sys2Proof

/-- The command word of R81's table. -/
def encode : Instr → Word
  | .clear => 0x00000001#32
  | .count => 0x00000002#32
  | .build => 0x00000003#32
  | .writeHeader => 0x00000004#32
  | .encode => 0x00000005#32
  | .readHeader => 0x00000006#32
  | .decode => 0x00000007#32

/-- The opcode map of R81: which command bits [7:0] select. -/
def decodeOpcode (op : Byte) : Option Instr :=
  match op.toNat with
  | 1 => some .clear
  | 2 => some .count
  | 3 => some .build
  | 4 => some .writeHeader
  | 5 => some .encode
  | 6 => some .readHeader
  | 7 => some .decode
  | _ => none

/-- decode of R82, total on every 32-bit word: `none` is Illegal (R83). -/
def decode (w : Word) : Option Instr :=
  if w.extractLsb' 8 24 = 0 then decodeOpcode (w.extractLsb' 0 8) else none

/-- What the decoder reads from an instruction whose bits, numbered as spec/opcode_table.json
numbers them, are `w`: a command word is one 32-bit register write, so bit 0 of `w` is bit 0 of
the word, and the bits above `nbits` are zero. -/
def decodeTableWord (nbits w : Nat) : Option Instr := decode (BitVec.ofNat 32 (w % 2 ^ nbits))

/-! Every constructor's decoding, by the word R81's table writes out (OPCODE in [7:0], MBZ zero). -/

theorem decode_word_clear : decode 0b00000000_00000000_00000000_00000001#32 = some .clear := by decide
theorem decode_word_count : decode 0b00000000_00000000_00000000_00000010#32 = some .count := by decide
theorem decode_word_build : decode 0b00000000_00000000_00000000_00000011#32 = some .build := by decide
theorem decode_word_writeHeader :
    decode 0b00000000_00000000_00000000_00000100#32 = some .writeHeader := by decide
theorem decode_word_encode : decode 0b00000000_00000000_00000000_00000101#32 = some .encode := by decide
theorem decode_word_readHeader :
    decode 0b00000000_00000000_00000000_00000110#32 = some .readHeader := by decide
theorem decode_word_decode : decode 0b00000000_00000000_00000000_00000111#32 = some .decode := by decide

end Sys2Proof
end

