-- ==== Sys2Proof/Machine/State.lean ====
section
/-! DEFINITION. The state of HUFF (spec/10_state.md R20 to R54), as plain data, and its reset
(spec/70_reset_and_hazards.md R260). -/

namespace Sys2Proof.Machine

open Sys2Proof

/-- Why the machine stops although the spec gives it an effect. The faults of the spec
(spec/60_exceptions.md R230) are not these: they are next states with FAULT = 1. -/
inductive Fault where
  /-- Raised by BUILD's Merge when NEXT_SEQ is 511: NODE[511] does not exist (R47, NODE[0..510]).
  No run from reset reaches it: a strict tree of at most 256 leaves has at most 511 nodes. Safe. -/
  | nodeStoreFull
  deriving DecidableEq, Repr

/-- Why a step has no meaning. -/
inductive Refusal where
  /-- Raised by exec for a command that has no meaning yet. Safe. No command raises it now. -/
  | notModelled (mnemonic : String)
  /-- Raised by a host access that is not 32 bits wide or not at a multiple of 4: R65 of
  spec/20_memory.md says "A model refuses such an access (no step)" of a narrower or misaligned one; a wider one is
  refused too (DEDUCED, log entry 6). Safe. -/
  | unsupportedAccess
  /-- Raised by an access of a bus master other than the one host: R246 of spec/60_exceptions.md
  says "Two hosts sharing one HUFF is not supported, and a model refuses it". Safe. -/
  | secondHost
  /-- Raised by a host access at an address outside the 256-byte window at HUFF_BASE: it goes to
  a platform device the spec does not describe (R8, R61; log entry 6). Safe. -/
  | outsideWindow
  deriving DecidableEq, Repr

/-- PHASE, 3 bits (R31). The values 5 to 7 are never taken, so they have no constructor. -/
inductive Phase where
  | idle
  | counted
  | built
  | headerWritten
  | headerRead
  deriving DecidableEq, Repr

/-- FAULT_CODE, 4 bits (R230 of spec/60_exceptions.md). The values 12 to 15 are never raised, so
they have no constructor. -/
inductive FaultCode where
  | none
  | illegalCmd
  | sequence
  | countOverflow
  | codeTooLong
  | symbolNotInTable
  | countMismatch
  | badMagic
  | underflow
  | badLength
  | duplicateCode
  | noMatch
  deriving DecidableEq, Repr

/-- A token of the input FIFO (R50): Byte(b) or the end-of-stream marker. -/
inductive Token where
  | byte (b : Byte)
  | eos
  deriving DecidableEq, Repr

/-- An entry of the decoder table (R45). -/
structure DtabEntry where
  valid : Bool
  sym : Byte
  len : BitVec 5
  val : BitVec 31
  deriving DecidableEq, Repr

/-- The entry {0, 0, 0, 0} of R45 and R260. -/
def DtabEntry.zero : DtabEntry where
  valid := false
  sym := 0
  len := 0
  val := 0

/-- A node of the node store (R47). -/
structure Node where
  weight : Word
  seq : NodeIx
  leaf : Bool
  sym : Byte
  left : NodeIx
  right : NodeIx
  deriving DecidableEq, Repr

/-- The node the model puts in a node store that has no specified content (log entry 2). -/
def Node.zero : Node where
  weight := 0
  seq := 0
  leaf := false
  sym := 0
  left := 0
  right := 0

/-- Points of COUNT's pseudocode (R160 of spec/42_count.md). -/
inductive CountPt where
  /-- Before the clearing of HIST and TOTAL. -/
  | start
  /-- At the InPop. -/
  | pop
  /-- A byte was popped and is to be counted. -/
  | tally (b : Byte)
  /-- EOS was popped: at complete(COUNTED). -/
  | done
  deriving DecidableEq, Repr

/-- Points of BUILD's pseudocode (R170 of spec/43_build.md). -/
inductive BuildPt where
  /-- Before the clearing of the code table. -/
  | start
  /-- At the test of the loop "while |QUEUE| > 1: Merge()". -/
  | merge
  /-- After the loop: paths, length check, table. -/
  | flatten
  deriving DecidableEq, Repr

/-- The fields WRITE_HEADER writes (R190 of spec/44_header.md). -/
inductive WField where
  | magic (i : Nat)
  | numEntries
  | sym (s : Byte)
  | len (s : Byte)
  | val (s : Byte)
  | payload
  deriving DecidableEq, Repr

/-- Points of WRITE_HEADER's pseudocode (R190). -/
inductive WritePt where
  /-- Before BitWriterReset(). -/
  | start
  /-- Inside the BitWrite of field f, with n bits left to write. -/
  | bits (f : WField) (n : Nat)
  /-- At the head of the loop over symbols, at symbol s; s = 256 is the loop's end. -/
  | scan (s : Nat)
  deriving DecidableEq, Repr

/-- Points of ENCODE's pseudocode (R210 of spec/45_encode.md). -/
inductive EncodePt where
  /-- At the InPop. -/
  | pop
  /-- EOS was popped: at the "too few" check. -/
  | eos
  /-- A byte was popped: at the "too many" check and the symbol check. -/
  | sym (b : Byte)
  /-- Inside the BitWrite of value v, with n bits left to write. -/
  | write (v : Word) (n : Nat)
  /-- At BitFlush() and the completion after it. -/
  | flush
  deriving DecidableEq, Repr

/-- The fields READ_HEADER reads, with the local variables known so far (R195 of
spec/44_header.md): the magic bytes m read, the entry index e, the entry count n, the symbol s and
the length L of entry e. -/
inductive RField where
  | magic (m : List Byte)
  | numEntries
  | sym (e : Byte) (n : Nat)
  | len (e : Byte) (n : Nat) (s : Byte)
  | val (e : Byte) (n : Nat) (s : Byte) (l : BitVec 5)
  | payload
  deriving DecidableEq, Repr

/-- Points of READ_HEADER's pseudocode (R195). -/
inductive ReadPt where
  /-- Before BitReaderReset(). -/
  | start
  /-- Inside the BitRead of field f, with n bits left to read and acc read so far. -/
  | bits (f : RField) (n : Nat) (acc : Word)
  /-- A BitRead popped EOS: at raise Fault(UNDERFLOW, PROGRESS) (R145). -/
  | underflow
  deriving DecidableEq, Repr

/-- Points of DECODE's pseudocode (R220 of spec/46_decode.md). -/
inductive DecodePt where
  /-- At the test "while PROGRESS < PAYLOAD_COUNT". -/
  | next
  /-- At BitRead(1). -/
  | bit
  /-- A bit was accumulated: at the lookup. -/
  | look
  /-- A codeword matched: at OutPush(sym). -/
  | push (sym : Byte)
  /-- The symbol was pushed: at PROGRESS <- PROGRESS + 1. -/
  | bump
  /-- BitRead popped EOS: at raise Fault(UNDERFLOW, PROGRESS) (R145). -/
  | underflow
  deriving DecidableEq, Repr

/-- The sequencer position (R21): idle, or the command being run and the point reached in its
pseudocode. -/
inductive Seq where
  | idle
  | clear
  | count (p : CountPt)
  | build (p : BuildPt)
  | writeHeader (p : WritePt)
  | encode (p : EncodePt)
  | readHeader (p : ReadPt)
  | decode (p : DecodePt)
  deriving DecidableEq, Repr

/-- The named registers of R22's map, in its order. -/
inductive Reg where
  | id
  | config
  | ctrl
  | cmd
  | status
  | intEn
  | intStatus
  | faultInfo
  | inData
  | fifoCtrl
  | outData
  | fifoStatus
  | progress
  | total
  | numEntries
  | payloadCount
  | index
  | histData
  | codeLenData
  | codeValData
  | dtabNum
  | dtabSym
  | dtabVal
  deriving DecidableEq, Repr

/-- The width of a bus access (R65 of spec/20_memory.md): 32 bits (word) is the one R65 requires, and it names
narrower ones (byte, half) as refused. It does not name an access wider than 32 bits (wide); that the model refuses
it too is DEDUCED from "must be 32 bits wide" (log entry 6). Safe. -/
inductive Width where
  | byte
  | half
  | word
  | wide
  deriving DecidableEq, Repr

/-- Who makes a bus access: the one host, or another master (R246 of spec/60_exceptions.md). -/
inductive Master where
  | host
  | other
  deriving DecidableEq, Repr

/-- What a bus access does. -/
inductive BusOp where
  | read
  | write (v : Word)
  deriving DecidableEq, Repr

/-- One bus access, at a host address. The data of a write is one word whatever the width, because an access
of another width is refused before its data is looked at. -/
structure BusAccess where
  master : Master
  width : Width
  addr : Nat
  op : BusOp
  deriving DecidableEq, Repr

/-- Where a host is that runs a sequence of commands, feeds their input and drains their output meanwhile
(R87 of spec/30_encoding.md, R270 of spec/70_reset_and_hazards.md): its next access. -/
inductive StreamPt where
  /-- At the CMD write of the next command. -/
  | issue
  /-- At a STATUS read, for BUSY. -/
  | status
  /-- At a FIFO_STATUS read, for IN_FULL and OUT_EMPTY. -/
  | fifo
  /-- At an OUT_DATA read, after which the token, if there is one, is pushed. -/
  | pop (t : Option Token)
  /-- At the push of a token. -/
  | push (t : Token)
  deriving DecidableEq, Repr

/-- One line of a host program (R86 of spec/30_encoding.md), or an event of the platform. -/
inductive HostLine where
  /-- `wr NAME, v`. -/
  | wr (r : Reg) (v : Word)
  /-- `rd NAME`. -/
  | rd (r : Reg)
  /-- `rd NAME until v`, the line of spec/95_test_vectors.md P5. -/
  | rdUntil (r : Reg) (v : Word)
  /-- `cmd MNEMONIC`. -/
  | cmd (i : Instr)
  /-- `push b0 b1 …`. -/
  | push (bs : List Byte)
  /-- `eos`. -/
  | eos
  /-- `pop n`. -/
  | pop (n : Nat)
  /-- `drain`. -/
  | drain
  /-- `wait`. -/
  | wait
  /-- Any one bus access, of any width (narrower than 32 bits, 32 bits, or wider), at any host address, by any
  master. -/
  | access (a : BusAccess)
  /-- The commands cmds one after another, each waited for by polling STATUS, with the input tokens ts
  pushed and OUT_DATA drained meanwhile: the interleaved pushes, pops and polls of R87 (log entry 3). -/
  | stream (cmds : List Instr) (ts : List Token) (p : StreamPt)
  /-- The platform's reset input (R261 of spec/70_reset_and_hazards.md). DESIGN CHOICE (log entry 15): the
  spec does not say when it arrives relative to the host's accesses; here it arrives where this line
  stands, after every access of the lines before it and before every access of the lines after it. -/
  | platformReset
  deriving DecidableEq, Repr

/-- The two agents that step (R13 of spec/00_scope.md). -/
inductive Agent where
  | host
  | engine
  deriving DecidableEq, Repr

/-- The state: everything spec/10_state.md gives HUFF, then the model's own fields (the host and
the choices of the interleaving). Names are those of the spec, in camel case. -/
structure State where
  /-- The parameters CONFIG reports, and HUFF_BASE (R8, R24). No event changes them. -/
  params : Params
  /-- CMD_WORD (R26). -/
  cmdWord : Word
  /-- BUSY (R27). -/
  busy : Bool
  /-- FAULT (R27). -/
  fault : Bool
  /-- CMD_IGN (R27). -/
  cmdIgn : Bool
  /-- PHASE (R31). -/
  phase : Phase
  /-- FAULT_CODE (R230). -/
  faultCode : FaultCode
  /-- FAULT_INFO (R30, R231). -/
  faultInfo : Word
  /-- INT_EN: bit 0 DONE_IE, bit 1 FAULT_IE (R28). -/
  intEn : BitVec 2
  /-- INT_STATUS: bit 0 DONE_IP, bit 1 FAULT_IP (R29). -/
  intStatus : BitVec 2
  /-- INDEX (R40). -/
  index : Byte
  /-- PROGRESS (R36). -/
  progress : Word
  /-- TOTAL (R37, R48). -/
  total : Word
  /-- PAYLOAD_COUNT (R39). -/
  payloadCount : Word
  /-- HIST[0..255] (R48). -/
  hist : Vector Word 256
  /-- CODE_LEN[0..255] (R44). -/
  codeLen : Vector (BitVec 5) 256
  /-- CODE_VAL[0..255] (R44). -/
  codeVal : Vector (BitVec 31) 256
  /-- NUM_ENTRIES (R44). -/
  numEntries : BitVec 9
  /-- DTAB[0..255] (R45). -/
  dtab : Vector DtabEntry 256
  /-- DNUM (R45). -/
  dnum : BitVec 9
  /-- BW_BUF (R46). -/
  bwBuf : Byte
  /-- BW_CNT, 0 to 7 (R46). -/
  bwCnt : BitVec 3
  /-- BR_BUF (R46). -/
  brBuf : Byte
  /-- BR_CNT, 0 to 8 (R46). -/
  brCnt : BitVec 4
  /-- NODE[0..510] (R47). -/
  node : Vector Node 511
  /-- QUEUE, the set of live node indices, as a list without repeats (R47). -/
  queue : List NodeIx
  /-- NEXT_SEQ (R47). -/
  nextSeq : NodeIx
  /-- ACC (R49). -/
  acc : BitVec 31
  /-- ACC_LEN (R49). -/
  accLen : BitVec 5
  /-- The sequencer position (R21). -/
  seq : Seq
  /-- The input FIFO, oldest token first (R50). -/
  inFifo : List Token
  /-- IN_OVF (R35). -/
  inOvf : Bool
  /-- The output FIFO, oldest byte first (R51). -/
  outFifo : List Byte
  /-- The model's own: what the host has still to do, in program order (R69, R86; log entry 3). -/
  program : List HostLine
  /-- The model's own: the host's reads, oldest first, each with its offset in the window and the value
  it returned (log entry 3). -/
  reads : List (Nat × Word)
  /-- The model's own: which agent moves at the coming free choices (R69; log entry 4). -/
  turns : List Agent
  /-- The model's own: the number of free values drawn so far (log entry 5). No statement rests
  on its value. -/
  draws : Nat
  deriving DecidableEq, Repr

/-- The state after a power-on reset of a HUFF with parameters p (R260): every element at the value
10_state.md gives; the node store, QUEUE and NEXT_SEQ, which have no reset value, at zero
(DESIGN CHOICE, log entry 2); no host program, no reads, no choices made (log entries 3 to 5). -/
def State.powerOn (p : Params) : State where
  params := p
  cmdWord := 0
  busy := false
  fault := false
  cmdIgn := false
  phase := .idle
  faultCode := .none
  faultInfo := 0
  intEn := 0
  intStatus := 0
  index := 0
  progress := 0
  total := 0
  payloadCount := 0
  hist := Vector.replicate 256 0
  codeLen := Vector.replicate 256 0
  codeVal := Vector.replicate 256 0
  numEntries := 0
  dtab := Vector.replicate 256 DtabEntry.zero
  dnum := 0
  bwBuf := 0
  bwCnt := 0
  brBuf := 0
  brCnt := 0
  node := Vector.replicate 511 Node.zero
  queue := []
  nextSeq := 0
  acc := 0
  accLen := 0
  seq := .idle
  inFifo := []
  inOvf := false
  outFifo := []
  program := []
  reads := []
  turns := []
  draws := 0

/-- The machine right after reset (R260), with the parameters of log entry 1. -/
def State.reset : State := State.powerOn Params.default

end Sys2Proof.Machine
end

