-- ==== Sys2Proof/Machine/Ops.lean ====
section
/-! DEFINITION. The named operations over the state: internal tables, FIFOs, bit adapters
(spec/41_bitio.md), completion, taking a fault and leaving the fault state. -/

namespace Sys2Proof.Machine

open Sys2Proof

/-! ## Internal tables (R60 of spec/20_memory.md: 8-bit symbol or entry index, 9-bit node index) -/

/-- NAME[i] of a 256-entry table (R11 of spec/00_scope.md). -/
def tabGet {α : Type} (t : Vector α 256) (i : Byte) : α := t[i.toNat]'i.isLt

/-- NAME[i] <- v of a 256-entry table (R11). -/
def tabSet {α : Type} (t : Vector α 256) (i : Byte) (v : α) : Vector α 256 := t.set i.toNat v i.isLt

/-- NODE[i] (R47). The index 511 names no node; the model reads a zero node there, which no run
reaches (log entry 7). -/
def nodeGet (t : Vector Node 511) (i : NodeIx) : Node :=
  if h : i.toNat < 511 then t[i.toNat] else Node.zero

/-- NODE[i] <- v (R47). A write to the index 511, which names no node, changes nothing; Merge
faults before it (log entry 7). -/
def nodeSet (t : Vector Node 511) (i : NodeIx) (v : Node) : Vector Node 511 :=
  if h : i.toNat < 511 then t.set i.toNat v else t

/-! ## Codes of PHASE and FAULT_CODE -/

/-- The value of PHASE in STATUS[6:4] (R31). -/
def phaseBits : Phase → BitVec 3
  | .idle => 0#3
  | .counted => 1#3
  | .built => 2#3
  | .headerWritten => 3#3
  | .headerRead => 4#3

/-- The value of FAULT_CODE in STATUS[11:8] (R230 of spec/60_exceptions.md). -/
def faultBits : FaultCode → BitVec 4
  | .none => 0#4
  | .illegalCmd => 1#4
  | .sequence => 2#4
  | .countOverflow => 3#4
  | .codeTooLong => 4#4
  | .symbolNotInTable => 5#4
  | .countMismatch => 6#4
  | .badMagic => 7#4
  | .underflow => 8#4
  | .badLength => 9#4
  | .duplicateCode => 10#4
  | .noMatch => 11#4

/-! ## The FIFOs -/

/-- IN_LEVEL < IN_FIFO_DEPTH (R122). -/
def inRoom (s : State) : Bool := decide (s.inFifo.length < s.params.inDepth.toNat)

/-- OUT_LEVEL < OUT_FIFO_DEPTH (R141). -/
def outRoom (s : State) : Bool := decide (s.outFifo.length < s.params.outDepth.toNat)

/-- The host's push of a token (R122, R123): appended, or dropped with IN_OVF at a full FIFO. -/
def pushToken (t : Token) (s : State) : State :=
  if inRoom s then { s with inFifo := s.inFifo ++ [t] } else { s with inOvf := true }

/-- InPop() (R140): the oldest token, removed; `none` while the FIFO is empty, where the engine
waits. -/
def inPop (s : State) : Option (Token × State) :=
  match s.inFifo with
  | [] => none
  | t :: rest => some (t, { s with inFifo := rest })

/-- OutPush(b) once there is room (R141). -/
def outPush (b : Byte) (s : State) : State := { s with outFifo := s.outFifo ++ [b] }

/-! ## The bit writer -/

/-- One bit step of BitWrite on (BW_BUF, BW_CNT) (R142): the new buffer and count, and the byte
the step pushes when it is the eighth bit. -/
def writerStep (buf : Byte) (cnt : BitVec 3) (b : Bool) : Byte × BitVec 3 × Option Byte :=
  if cnt = 7#3 then (0#8, 0#3, some (buf.shiftConcat b)) else (buf.shiftConcat b, cnt + 1#3, none)

/-- BitWrite(v, n) on (BW_BUF, BW_CNT) alone (R142): the bytes it pushes, in order, and what the
writer holds after it. -/
def bitWrite (v : Word) : Nat → Byte → BitVec 3 → List Byte × Byte × BitVec 3
  | 0, buf, cnt => ([], buf, cnt)
  | n + 1, buf, cnt =>
    let r := writerStep buf cnt (v.getLsbD n)
    let t := bitWrite v n r.1 r.2.1
    (r.2.2.toList ++ t.1, t.2)

/-- The byte BitFlush pushes: the held bits, then zero bits (R144). -/
def flushByte (buf : Byte) (cnt : BitVec 3) : Byte := buf <<< (8 - cnt.toNat)

/-- The bit step of BitWrite has to push a byte and the output FIFO is full: the engine waits in
OutPush (R141, R142). -/
def writeBlocked (s : State) : Bool := s.bwCnt == 7#3 && !outRoom s

/-- One bit step of BitWrite (R142), once it need not wait. -/
def writeBit (b : Bool) (s : State) : State :=
  let r := writerStep s.bwBuf s.bwCnt b
  { s with bwBuf := r.1, bwCnt := r.2.1, outFifo := s.outFifo ++ r.2.2.toList }

/-- BitWriterReset() (R143). -/
def bitWriterReset (s : State) : State := { s with bwBuf := 0#8, bwCnt := 0#3 }

/-- BitFlush() with bits held, once there is room (R144). -/
def bitFlush (s : State) : State :=
  bitWriterReset (outPush (flushByte s.bwBuf s.bwCnt) s)

/-! ## The bit reader -/

/-- What one bit step of BitRead does (R145). -/
inductive BitStep where
  /-- BR_CNT = 0 and the input FIFO is empty: the engine waits in InPop. -/
  | wait
  /-- The token popped is EOS: UNDERFLOW is raised next. -/
  | eos (s : State)
  /-- A bit, and the state after the step. -/
  | bit (b : Bool) (s : State)

/-- The next unread bit of BR_BUF, BR_BUF[BR_CNT - 1] (R145). -/
def readerBit (buf : Byte) (cnt : BitVec 4) : Bool := buf.getLsbD (cnt.toNat - 1)

/-- One bit step of BitRead (R145): a byte is popped only when no bit is held. -/
def readBit (s : State) : BitStep :=
  if s.brCnt = 0#4 then
    match inPop s with
    | none => .wait
    | some (.eos, s') => .eos s'
    | some (.byte b, s') => .bit (readerBit b 8#4) { s' with brBuf := b, brCnt := 7#4 }
  else .bit (readerBit s.brBuf s.brCnt) { s with brCnt := s.brCnt - 1#4 }

/-- acc <- (acc << 1) | bit (R145). -/
def accShift (acc : Word) (b : Bool) : Word := acc.shiftConcat b

/-- BitRead(n) on (BR_BUF, BR_CNT) and a stream of bytes alone (R145): the accumulator after n
bits, and what the reader and the stream hold then; `none` when the stream runs out. -/
def bitRead : Nat → Word → Byte → BitVec 4 → List Byte → Option (Word × Byte × BitVec 4 × List Byte)
  | 0, acc, buf, cnt, bs => some (acc, buf, cnt, bs)
  | n + 1, acc, buf, cnt, bs =>
    if cnt = 0#4 then
      match bs with
      | [] => none
      | b :: rest => bitRead n (accShift acc (readerBit b 8#4)) b 7#4 rest
    else bitRead n (accShift acc (readerBit buf cnt)) buf (cnt - 1#4) bs

/-- BitReaderReset() (R146). -/
def bitReaderReset (s : State) : State := { s with brBuf := 0#8, brCnt := 0#4 }

/-! ## Ends of a command -/

/-- complete(p) (R115 of spec/40_control.md). -/
def complete (p : Phase) (s : State) : State :=
  { s with phase := p, busy := false, intStatus := s.intStatus ||| 1#2, seq := .idle }

/-- raise Fault(code, info), the one way a command takes a fault (R236 of spec/60_exceptions.md).
PHASE is left unchanged (R113); nothing else is saved. -/
def raiseFault (code : FaultCode) (info : Word) (s : State) : State :=
  { s with
    faultCode := code
    faultInfo := info
    fault := true
    busy := false
    intStatus := s.intStatus ||| 2#2
    seq := .idle }

/-- The return from the fault state (R238), as CLEAR does it (R116): FAULT, FAULT_CODE and
FAULT_INFO are cleared, FAULT_IP is not. -/
def leaveFault (s : State) : State :=
  { s with fault := false, faultCode := .none, faultInfo := 0#32 }

/-- The engine moves on to another point of its command. -/
def goto (p : Seq) (s : State) : State := { s with seq := p }

/-- PROGRESS <- v (R36). -/
def setProgress (v : Word) (s : State) : State := { s with progress := v }

end Sys2Proof.Machine
end

