-- ==== Sys2Proof/Machine/Operands.lean ====
section
/-! DEFINITION. The implicit operands of the commands (R80, R84 of spec/30_encoding.md): the header
fields WRITE_HEADER writes and READ_HEADER reads, the codewords ENCODE and DECODE look up. -/

namespace Sys2Proof.Machine

open Sys2Proof

/-- MAGIC[0..7], the characters H,U,F,F,M,A,N,1 (R92). -/
def magic : List Byte := [0x48, 0x55, 0x46, 0x46, 0x4D, 0x41, 0x4E, 0x31]

/-- MAGIC[i]. -/
def magicByte (i : Nat) : Byte := magic.getD i 0

/-- The value v of the BitWrite(v, n) that writes field f (R190 of spec/44_header.md). -/
def fieldValue (f : WField) (s : State) : Word :=
  match f with
  | .magic i => (magicByte i).setWidth 32
  | .numEntries => ((s.numEntries.setWidth 8 : BitVec 8)).setWidth 32
  | .sym b => b.setWidth 32
  | .len b => (tabGet s.codeLen b).setWidth 32
  | .val b => (tabGet s.codeVal b).setWidth 32
  | .payload => s.payloadCount

/-- The width n of the BitWrite(v, n) that writes field f (R190). -/
def fieldWidth (f : WField) (s : State) : Nat :=
  match f with
  | .magic _ => 8
  | .numEntries => 8
  | .sym _ => 8
  | .len _ => 5
  | .val b => (tabGet s.codeLen b).toNat
  | .payload => 32

/-- The width n of the BitRead(n) that reads field f (R195). -/
def readWidth : RField → Nat
  | .magic _ => 8
  | .numEntries => 8
  | .sym _ _ => 8
  | .len _ _ _ => 5
  | .val _ _ _ l => l.toNat
  | .payload => 32

/-- The table size a num_entries byte means: 0 is 256 (R93). -/
def entryCount (f : Byte) : Nat := if f = 0#8 then 256 else f.toNat

/-- The least index at which the magic bytes read differ from MAGIC (R196). -/
def magicMismatch (m : List Byte) : Option Nat :=
  (List.range 8).find? (fun i => m.getD i 0 != magicByte i)

/-- Entry e of DTAB holds the codeword (len, val) (R10: length and value both equal). -/
def entryIs (t : Vector DtabEntry 256) (len : BitVec 5) (val : BitVec 31) (e : Nat) : Bool :=
  let d := tabGet t (BitVec.ofNat 8 e)
  d.len == len && d.val == val

/-- The least entry j < e that holds the codeword (len, val) (R198). -/
def duplicateOf (t : Vector DtabEntry 256) (e : Nat) (len : BitVec 5) (val : BitVec 31) :
    Option Nat :=
  (List.range e).find? (entryIs t len val)

/-- The least valid entry e < DNUM that matches the accumulated (ACC_LEN, ACC) (R220, R221). -/
def lookup (s : State) : Option Nat :=
  (List.range s.dnum.toNat).find? (fun e =>
    (tabGet s.dtab (BitVec.ofNat 8 e)).valid && entryIs s.dtab s.accLen s.acc e)

/-- S of R170: the symbols with HIST[s] > 0, in ascending order. -/
def present (h : Vector Word 256) : List Byte :=
  ((List.range 256).map (BitVec.ofNat 8)).filter (fun b => tabGet h b != 0#32)

/-- The opcode field of a command word, w[7:0] (R80). -/
def opcode (w : Word) : Byte := w.setWidth 8

end Sys2Proof.Machine
end

