-- ==== Sys2Proof/Machine/Flags.lean ====
section
/-! DEFINITION. Status flags and the interrupt line (R27 and R35 of spec/10_state.md, R52, R240 of
spec/60_exceptions.md), and when the engine has a step to take (R280). -/

namespace Sys2Proof.Machine

open Sys2Proof

/-- The engine's next step is an InPop (R27 WAIT_IN; R140, R145). -/
def nextIsInPop (s : State) : Bool :=
  match s.seq with
  | .count .pop => true
  | .encode .pop => true
  | .readHeader (.bits _ (_ + 1) _) => s.brCnt == 0#4
  | .decode .bit => s.brCnt == 0#4
  | _ => false

/-- The engine's next step is an OutPush (R27 WAIT_OUT; R141, R142, R144). -/
def nextIsOutPush (s : State) : Bool :=
  match s.seq with
  | .writeHeader (.bits _ (_ + 1)) => s.bwCnt == 7#3
  | .encode (.write _ (_ + 1)) => s.bwCnt == 7#3
  | .encode .flush => s.bwCnt != 0#3
  | .decode (.push _) => true
  | _ => false

/-- STATUS.WAIT_IN (R27). -/
def waitIn (s : State) : Bool := s.busy && nextIsInPop s && s.inFifo.isEmpty

/-- STATUS.WAIT_OUT (R27). -/
def waitOut (s : State) : Bool := s.busy && nextIsOutPush s && !outRoom s

/-- The command being run, from the sequencer position (R21). -/
def runningOf : Seq → Option Instr
  | .idle => none
  | .clear => some .clear
  | .count _ => some .count
  | .build _ => some .build
  | .writeHeader _ => some .writeHeader
  | .encode _ => some .encode
  | .readHeader _ => some .readHeader
  | .decode _ => some .decode

/-- An engine step is enabled: a command runs and does not wait on a FIFO (R111, R280). -/
def engineReady (s : State) : Bool :=
  s.busy && (runningOf s.seq).isSome && !waitIn s && !waitOut s

/-- The interrupt output (R240). -/
def irq (s : State) : Bool :=
  (s.intStatus.getLsbD 0 && s.intEn.getLsbD 0) || (s.intStatus.getLsbD 1 && s.intEn.getLsbD 1)

/-- IN_LEVEL (R35). -/
def inLevel (s : State) : BitVec 12 := BitVec.ofNat 12 s.inFifo.length

/-- OUT_LEVEL (R35). -/
def outLevel (s : State) : BitVec 12 := BitVec.ofNat 12 s.outFifo.length

/-- IN_FULL: IN_LEVEL = IN_FIFO_DEPTH (R35). -/
def inFull (s : State) : Bool := inLevel s == s.params.inDepth

/-- OUT_EMPTY: OUT_LEVEL = 0 (R35). -/
def outEmpty (s : State) : Bool := outLevel s == 0#12

/-- The STATUS word (R27), bit 31 first. -/
def statusWord (s : State) : Word :=
  (0 : BitVec 18) ++ BitVec.ofBool (waitOut s) ++ BitVec.ofBool (waitIn s) ++ faultBits s.faultCode
    ++ (0 : BitVec 1) ++ phaseBits s.phase ++ (0 : BitVec 1) ++ BitVec.ofBool s.cmdIgn
    ++ BitVec.ofBool s.fault ++ BitVec.ofBool s.busy

/-- The FIFO_STATUS word (R35), bit 31 first. -/
def fifoStatusWord (s : State) : Word :=
  (0 : BitVec 5) ++ BitVec.ofBool s.inOvf ++ BitVec.ofBool (outEmpty s) ++ BitVec.ofBool (inFull s)
    ++ outLevel s ++ inLevel s

/-- The CONFIG word (R24): MAX_LEN 31, OUT_DEPTH, IN_DEPTH. -/
def configWord (s : State) : Word :=
  (0 : BitVec 3) ++ (31 : BitVec 5) ++ s.params.outDepth ++ s.params.inDepth

end Sys2Proof.Machine
end

