-- ==== Sys2Proof/Machine/Sequencer.lean ====
section
/-! DEFINITION. The command sequencer: acceptance and phase checks (spec/40_control.md R110 to
R115), and CLEAR (R116). -/

namespace Sys2Proof.Machine

open Sys2Proof

/-- phase_ok(c, PHASE) (R112). -/
def phaseOk (c : Instr) (p : Phase) : Bool :=
  match c with
  | .clear => true
  | .count => true
  | .build => p == .counted
  | .writeHeader => p == .built
  | .encode => p == .headerWritten
  | .readHeader => true
  | .decode => p == .headerRead

/-- The first point of a command's pseudocode (R116, R160, R170, R190, R195, R210, R220). -/
def startOf : Instr → Seq
  | .clear => .clear
  | .count => .count .start
  | .build => .build .start
  | .writeHeader => .writeHeader .start
  | .encode => .encode .pop
  | .readHeader => .readHeader .start
  | .decode => .decode .next

/-- A word the engine ignores changes nothing but CMD_IGN (R110). -/
def ignoreWord (s : State) : State := { s with cmdIgn := true }

/-- The engine accepts the word w: "CMD_IGN <- 0 ; CMD_WORD <- w ; PROGRESS <- 0 ; BUSY <- 1"
(R110). Nothing else is cleared (R114). -/
def acceptWord (w : Word) (s : State) : State :=
  { s with cmdIgn := false, cmdWord := w, progress := 0#32, busy := true }

/-- The word w is ignored: a command runs, or the engine is in the fault state and w is not CLEAR's
word (R110). -/
def ignores (w : Word) (s : State) : Bool := s.busy || (s.fault && w != encode .clear)

/-- FAULT_INFO of SEQUENCE: zext_32({PHASE, w[7:0]}) (R110, R231). -/
def sequenceInfo (w : Word) (p : Phase) : Word := (phaseBits p ++ opcode w : BitVec 11).setWidth 32

/-- The acceptance event of command c: its word is offered to the engine (R110). It is ignored, or
accepted and then faulted SEQUENCE, or accepted and started. -/
def offer (c : Instr) (s : State) : State :=
  if ignores (encode c) s then ignoreWord s
  else if phaseOk c s.phase then goto (startOf c) (acceptWord (encode c) s)
  else raiseFault .sequence (sequenceInfo (encode c) s.phase) (acceptWord (encode c) s)

/-- An illegal word w is offered to the engine (R83, R110): ignored, or accepted and faulted
ILLEGAL_CMD before any phase check (R232). -/
def offerIllegal (w : Word) (s : State) : State :=
  if ignores w s then ignoreWord s else raiseFault .illegalCmd w (acceptWord w s)

/-- What CLEAR clears beside the fault state (R116). -/
def clearTables (s : State) : State :=
  { s with
    hist := Vector.replicate 256 0#32
    codeLen := Vector.replicate 256 0#5
    codeVal := Vector.replicate 256 0#31
    dtab := Vector.replicate 256 DtabEntry.zero
    total := 0#32
    numEntries := 0#9
    dnum := 0#9
    payloadCount := 0#32 }

/-- CLEAR's pseudocode, one event: its only visible effects are those of its completion (R27, R67,
R116). -/
def clearEvent (s : State) : State :=
  complete .idle (leaveFault (bitReaderReset (bitWriterReset (clearTables s))))

/-- CLEAR (R116). The next event of the command CLEAR: its acceptance while no command runs, its
one engine event while it runs; while another command runs, the word is ignored (R110). -/
def execClear (s : State) : Host.Outcome State Fault Refusal :=
  match s.busy, s.seq with
  | true, .clear => .next (clearEvent s)
  | _, _ => .next (offer .clear s)

end Sys2Proof.Machine
end

