-- ==== Sys2Proof/Machine/Build.lean ====
section
/-! DEFINITION. The code-tree builder: BUILD (spec/43_build.md R170 to R178). -/

namespace Sys2Proof.Machine

open Sys2Proof

/-- The order of ExtractMin: (weight, seq), compared lexicographically (R173). -/
def keyLt (a b : Node) : Bool := a.weight < b.weight || (a.weight == b.weight && a.seq < b.seq)

/-- The better of the candidate m and the node y: the one with the smaller key. -/
def minStep (t : Vector Node 511) (m y : NodeIx) : NodeIx :=
  if keyLt (nodeGet t y) (nodeGet t m) then y else m

/-- ExtractMin() (R173): the node of QUEUE with the smallest key, and QUEUE without it. -/
def extractMin (t : Vector Node 511) (q : List NodeIx) : Option (NodeIx × List NodeIx) :=
  match q with
  | [] => none
  | x :: xs =>
    let m := xs.foldl (minStep t) x
    some (m, q.erase m)

/-- Clearing of the code table: every CODE_LEN and CODE_VAL to 0, NUM_ENTRIES to 0 (R170, R178). -/
def clearCodes (s : State) : State :=
  { s with
    codeLen := Vector.replicate 256 0#5
    codeVal := Vector.replicate 256 0#31
    numEntries := 0#9 }

/-- CODE_LEN[b] <- len ; CODE_VAL[b] <- val (R170). -/
def setCode (b : Byte) (len : BitVec 5) (val : BitVec 31) (s : State) : State :=
  { s with codeLen := tabSet s.codeLen b len, codeVal := tabSet s.codeVal b val }

/-- The table of a degenerate input: the one codeword (1, 0), for symbol b (R176). -/
def singleCode (b : Byte) (s : State) : State :=
  { setCode b 1#5 0#31 s with numEntries := 1#9 }

/-- MakeLeaves writes NODE[i], the leaf of symbol b (R172): the four fields the rule names. -/
def leafInto (h : Vector Word 256) (t : Vector Node 511) (i : Nat) (b : Byte) : Vector Node 511 :=
  let n := BitVec.ofNat 9 i
  nodeSet t n { nodeGet t n with weight := tabGet h b, seq := n, leaf := true, sym := b }

/-- MakeLeaves(S) on the node store, from index i on (R172). -/
def leavesInto (h : Vector Word 256) : Vector Node 511 → Nat → List Byte → Vector Node 511
  | t, _, [] => t
  | t, i, b :: bs => leavesInto h (leafInto h t i b) (i + 1) bs

/-- MakeLeaves(S) (R172). -/
def makeLeaves (bs : List Byte) (s : State) : State :=
  { s with
    node := leavesInto s.hist s.node 0 bs
    queue := (List.range bs.length).map (BitVec.ofNat 9)
    nextSeq := BitVec.ofNat 9 bs.length }

/-- Merge() after its two removals, r then l, which left the queue q (R174). -/
def mergeInto (r l : NodeIx) (q : List NodeIx) (s : State) : State :=
  let n := s.nextSeq
  { s with
    node := nodeSet s.node n
      { nodeGet s.node n with
        weight := (nodeGet s.node l).weight + (nodeGet s.node r).weight
        seq := n
        leaf := false
        left := l
        right := r }
    queue := q ++ [n]
    nextSeq := n + 1#9
    progress := s.progress + 1#32 }

/-- The two removals of Merge(): the first removed is the right node, the second the left one, and
what is left of QUEUE (R174). -/
def extractTwo (t : Vector Node 511) (q : List NodeIx) : Option (NodeIx × NodeIx × List NodeIx) :=
  match extractMin t q with
  | none => none
  | some (r, q1) =>
    match extractMin t q1 with
    | none => none
    | some (l, q2) => some (r, l, q2)

/-- The codeword path of a leaf below some node (R175): its symbol, the number of bits, and the
bits as a number, the first step most significant. -/
structure LeafPath where
  sym : Byte
  depth : Nat
  path : Nat
  deriving DecidableEq, Repr

/-- One step up: (d, p) becomes (d + 1, bit * 2^d + p) (R175). -/
def LeafPath.up (bit : Nat) (x : LeafPath) : LeafPath where
  sym := x.sym
  depth := x.depth + 1
  path := bit * 2 ^ x.depth + x.path

/-- Path(n, x) for every leaf x under node n (R175): left appends bit 0, right bit 1. The fuel
bounds the descent; a tree in a store of 511 nodes is less deep. -/
def leafPaths (t : Vector Node 511) : Nat → NodeIx → List LeafPath
  | 0, _ => []
  | f + 1, n =>
    let x := nodeGet t n
    if x.leaf then [{ sym := x.sym, depth := 0, path := 0 }]
    else (leafPaths t f x.left).map (LeafPath.up 0) ++ (leafPaths t f x.right).map (LeafPath.up 1)

/-- root, the one node left in QUEUE (R170). -/
def rootOf (s : State) : NodeIx := s.queue.headD 0#9

/-- The paths of all leaves under the root (R170). -/
def codePaths (s : State) : List LeafPath := leafPaths s.node 511 (rootOf s)

/-- The smallest symbol whose depth exceeds 31 (R178). -/
def tooLong (ps : List LeafPath) : Option Byte :=
  ((List.range 256).map (BitVec.ofNat 8)).find? (fun b => ps.any (fun x => x.sym == b && 31 < x.depth))

/-- CODE_LEN and CODE_VAL of one leaf (R170). -/
def writePath (s : State) (x : LeafPath) : State :=
  setCode x.sym (BitVec.ofNat 5 x.depth) (BitVec.ofNat 31 x.path) s

/-- "for each leaf x: CODE_LEN[...] <- depth_x ; CODE_VAL[...] <- path_x" (R170). -/
def writePaths (ps : List LeafPath) (s : State) : State := ps.foldl writePath s

/-- The event that ends BUILD: the length check, then the table and the completion, or the fault
(R170, R178). NUM_ENTRIES <- k, the number of symbols with HIST[s] > 0. -/
def flattenTree (s : State) : State :=
  match tooLong (codePaths s) with
  | some b => raiseFault .codeTooLong (b.setWidth 32) (clearCodes s)
  | none =>
    complete .built
      { writePaths (codePaths s) s with numEntries := BitVec.ofNat 9 (present s.hist).length }

/-- The first event of BUILD: the code table is cleared, and S decides (R170, R176). -/
def buildStart (s : State) : State :=
  match present s.hist with
  | [] => complete .built (singleCode 0#8 (clearCodes s))
  | [b] => complete .built (singleCode b (clearCodes s))
  | bs => goto (.build .merge) (makeLeaves bs (clearCodes s))

/-- One pass of the loop "while |QUEUE| > 1: Merge()" (R170, R174). A Merge that would write
NODE[511] faults: no such node exists (R47; log entry 7). -/
def mergeEvent (s : State) : Host.Outcome State Fault Refusal :=
  match extractTwo s.node s.queue with
  | none => .next (goto (.build .flatten) s)
  | some (r, l, q) =>
    if s.nextSeq.toNat < 511 then .next (mergeInto r l q s) else .fault .nodeStoreFull

/-- One event of BUILD's pseudocode (R170). -/
def buildEvent (p : BuildPt) (s : State) : Host.Outcome State Fault Refusal :=
  match p with
  | .start => .next (buildStart s)
  | .merge => mergeEvent s
  | .flatten => .next (flattenTree s)

/-- BUILD (R170). The next event of the command BUILD: its acceptance while no command runs, its
next engine event while it runs; while another command runs, the word is ignored (R110). -/
def execBuild (s : State) : Host.Outcome State Fault Refusal :=
  match s.busy, s.seq with
  | true, .build p => buildEvent p s
  | _, _ => .next (offer .build s)

end Sys2Proof.Machine
end

