-- ==== Sys2Proof/Machine/Count.lean ====
section
/-! DEFINITION. The frequency counter: COUNT (spec/42_count.md R160 to R162). -/

namespace Sys2Proof.Machine

open Sys2Proof

/-- HIST[s] <- 0 for every s, TOTAL <- 0 (R160). -/
def countInit (s : State) : State := { s with hist := Vector.replicate 256 0#32, total := 0#32 }

/-- A byte is counted: HIST[b] + 1, TOTAL + 1, PROGRESS <- TOTAL (R160). -/
def countByte (b : Byte) (s : State) : State :=
  { s with
    hist := tabSet s.hist b (tabGet s.hist b + 1#32)
    total := s.total + 1#32
    progress := s.total + 1#32 }

/-- One event of COUNT's pseudocode (R160). At the InPop with an empty FIFO the engine waits: the
state is unchanged (R140). -/
def countEvent (p : CountPt) (s : State) : State :=
  match p with
  | .start => goto (.count .pop) (countInit s)
  | .pop =>
    match inPop s with
    | none => s
    | some (.eos, s') => goto (.count .done) s'
    | some (.byte b, s') => goto (.count (.tally b)) s'
  | .tally b =>
    if s.total = 0xFFFFFFFF#32 then raiseFault .countOverflow (b.setWidth 32) s
    else goto (.count .pop) (countByte b s)
  | .done => complete .counted s

/-- COUNT (R160). The next event of the command COUNT: its acceptance while no command runs, its
next engine event while it runs; while another command runs, the word is ignored (R110). -/
def execCount (s : State) : Host.Outcome State Fault Refusal :=
  match s.busy, s.seq with
  | true, .count p => .next (countEvent p s)
  | _, _ => .next (offer .count s)

end Sys2Proof.Machine
end

