-- ==== Sys2Proof/Machine/Decoder.lean ====
section
/-! DEFINITION. The bitstream decoder: DECODE (spec/46_decode.md R220 to R224). -/

namespace Sys2Proof.Machine

open Sys2Proof

/-- ACC <- 0 ; ACC_LEN <- 0 (R220). -/
def accReset (s : State) : State := { s with acc := 0#31, accLen := 0#5 }

/-- ACC <- (ACC << 1) | bit ; ACC_LEN <- ACC_LEN + 1 (R220). -/
def accBit (b : Bool) (s : State) : State :=
  { s with acc := s.acc.shiftConcat b, accLen := s.accLen + 1#5 }

/-- The test "while PROGRESS < PAYLOAD_COUNT" (R220, R223). -/
def decodeNext (s : State) : State :=
  if s.progress < s.payloadCount then goto (.decode .bit) (accReset s) else complete .idle s

/-- The lookup after a bit: the first match, which is the shortest, gives the symbol (R221); 31
bits without a match are NO_MATCH (R222); otherwise one more bit is read. -/
def decodeLook (s : State) : State :=
  match lookup s with
  | some e => goto (.decode (.push (tabGet s.dtab (BitVec.ofNat 8 e)).sym)) s
  | none =>
    if s.accLen = 31#5 then raiseFault .noMatch s.progress s else goto (.decode .bit) s

/-- One event of DECODE's pseudocode (R220). In InPop and in OutPush the engine may wait: the
state is unchanged (R140, R141). -/
def decodeEvent (p : DecodePt) (s : State) : State :=
  match p with
  | .next => decodeNext s
  | .bit =>
    match readBit s with
    | .wait => s
    | .eos s' => goto (.decode .underflow) s'
    | .bit b s' => goto (.decode .look) (accBit b s')
  | .look => decodeLook s
  | .push sym => if outRoom s then goto (.decode .bump) (outPush sym s) else s
  | .bump => goto (.decode .next) (setProgress (s.progress + 1#32) s)
  | .underflow => raiseFault .underflow s.progress s

/-- DECODE (R220). The next event of the command DECODE: its acceptance while no command runs, its
next engine event while it runs; while another command runs, the word is ignored (R110). -/
def execDecode (s : State) : Host.Outcome State Fault Refusal :=
  match s.busy, s.seq with
  | true, .decode p => .next (decodeEvent p s)
  | _, _ => .next (offer .decode s)

end Sys2Proof.Machine
end

