-- ==== Sys2Proof/Machine/Encoder.lean ====
section
/-! DEFINITION. The bitstream encoder: ENCODE (spec/45_encode.md R210 to R213). -/

namespace Sys2Proof.Machine

open Sys2Proof

/-- At EOS: the "too few" check, then BitFlush (R210, R212). -/
def encodeEos (s : State) : State :=
  if s.progress = s.payloadCount then goto (.encode .flush) s
  else raiseFault .countMismatch s.progress s

/-- At a byte b: the "too many" check before the symbol check (R210, R212, R213, R233), then the
BitWrite of its codeword. -/
def encodeByte (b : Byte) (s : State) : State :=
  if s.progress = s.payloadCount then raiseFault .countMismatch s.progress s
  else if tabGet s.codeLen b = 0#5 then raiseFault .symbolNotInTable (b.setWidth 32) s
  else goto (.encode (.write ((tabGet s.codeVal b).setWidth 32) (tabGet s.codeLen b).toNat)) s

/-- BitFlush() and complete(BUILT) (R144, R210). With bits held, the byte is pushed first, once
there is room. -/
def encodeFlush (s : State) : State :=
  if s.bwCnt = 0#3 then complete .built s
  else if outRoom s then bitFlush s
  else s

/-- One event of ENCODE's pseudocode (R210). In InPop and in OutPush the engine may wait: the
state is unchanged (R140, R141). -/
def encodeEvent (p : EncodePt) (s : State) : State :=
  match p with
  | .pop =>
    match inPop s with
    | none => s
    | some (.eos, s') => goto (.encode .eos) s'
    | some (.byte b, s') => goto (.encode (.sym b)) s'
  | .eos => encodeEos s
  | .sym b => encodeByte b s
  | .write _ 0 => goto (.encode .pop) (setProgress (s.progress + 1#32) s)
  | .write v (n + 1) =>
    if writeBlocked s then s else goto (.encode (.write v n)) (writeBit (v.getLsbD n) s)
  | .flush => encodeFlush s

/-- ENCODE (R210). The next event of the command ENCODE: its acceptance while no command runs, its
next engine event while it runs; while another command runs, the word is ignored (R110). -/
def execEncode (s : State) : Host.Outcome State Fault Refusal :=
  match s.busy, s.seq with
  | true, .encode p => .next (encodeEvent p s)
  | _, _ => .next (offer .encode s)

end Sys2Proof.Machine
end

