-- ==== Sys2Proof/Machine/Header.lean ====
section
/-! DEFINITION. The code-table serializer and deserializer: WRITE_HEADER and READ_HEADER
(spec/44_header.md R190 to R199). -/

namespace Sys2Proof.Machine

open Sys2Proof

/-! ## WRITE_HEADER -/

/-- The engine starts the BitWrite of field f. -/
def startField (f : WField) (s : State) : State :=
  goto (.writeHeader (.bits f (fieldWidth f s))) s

/-- PAYLOAD_COUNT <- TOTAL (R193). -/
def takePayloadCount (s : State) : State := { s with payloadCount := s.total }

/-- What follows the last bit of field f (R190). -/
def afterField (f : WField) (s : State) : State :=
  match f with
  | .magic i => if i + 1 < 8 then startField (.magic (i + 1)) s else startField .numEntries s
  | .numEntries => goto (.writeHeader (.scan 0)) s
  | .sym b => startField (.len b) s
  | .len b => startField (.val b) s
  | .val b => goto (.writeHeader (.scan (b.toNat + 1))) (setProgress (s.progress + 1#32) s)
  | .payload => complete .headerWritten s

/-- The head of the loop over symbols, at symbol k (R190, R192): an entry for a symbol with a
codeword, the next symbol otherwise, the payload count after symbol 255. -/
def scanSymbol (k : Nat) (s : State) : State :=
  if k < 256 then
    if tabGet s.codeLen (BitVec.ofNat 8 k) = 0#5 then goto (.writeHeader (.scan (k + 1))) s
    else startField (.sym (BitVec.ofNat 8 k)) s
  else startField .payload (takePayloadCount s)

/-- One event of WRITE_HEADER's pseudocode (R190). Where a bit step has to push a byte and the
output FIFO is full, the engine waits: the state is unchanged (R141). -/
def writeEvent (p : WritePt) (s : State) : State :=
  match p with
  | .start => startField (.magic 0) (bitWriterReset s)
  | .bits f 0 => afterField f s
  | .bits f (n + 1) =>
    if writeBlocked s then s
    else goto (.writeHeader (.bits f n)) (writeBit ((fieldValue f s).getLsbD n) s)
  | .scan k => scanSymbol k s

/-- WRITE_HEADER (R190). The next event of the command WRITE_HEADER: its acceptance while no
command runs, its next engine event while it runs; while another runs, the word is ignored
(R110). -/
def execWriteHeader (s : State) : Host.Outcome State Fault Refusal :=
  match s.busy, s.seq with
  | true, .writeHeader p => .next (writeEvent p s)
  | _, _ => .next (offer .writeHeader s)

/-! ## READ_HEADER -/

/-- The clearing READ_HEADER starts with (R195). -/
def clearDtab (s : State) : State :=
  { s with dtab := Vector.replicate 256 DtabEntry.zero, dnum := 0#9, payloadCount := 0#32 }

/-- The engine starts the BitRead of field f, with an empty accumulator (R145). -/
def startRead (f : RField) (s : State) : State :=
  goto (.readHeader (.bits f (readWidth f) 0#32)) s

/-- DTAB[e] <- {valid 1, sym, len, val} ; DNUM <- e + 1 ; PROGRESS <- e + 1 (R195). -/
def storeEntry (e sym : Byte) (len : BitVec 5) (val : BitVec 31) (s : State) : State :=
  { s with
    dtab := tabSet s.dtab e { valid := true, sym := sym, len := len, val := val }
    dnum := BitVec.ofNat 9 (e.toNat + 1)
    progress := BitVec.ofNat 32 (e.toNat + 1) }

/-- FAULT_INFO of DUPLICATE_CODE: j * 2^16 + e (R198, R231). -/
def duplicateInfo (j : Nat) (e : Byte) : Word := BitVec.ofNat 32 (j * 2 ^ 16 + e.toNat)

/-- After the codeword of entry e: the duplicate check, then the entry is stored and the next
entry or the payload count is read (R195, R198). -/
def afterCode (e : Byte) (n : Nat) (sym : Byte) (len : BitVec 5) (val : BitVec 31) (s : State) :
    State :=
  match duplicateOf s.dtab e.toNat len val with
  | some j => raiseFault .duplicateCode (duplicateInfo j e) s
  | none =>
    if e.toNat + 1 < n then startRead (.sym (e + 1#8) n) (storeEntry e sym len val s)
    else startRead .payload (storeEntry e sym len val s)

/-- After the last magic byte: all 8 are compared (R196). -/
def checkMagic (m : List Byte) (s : State) : State :=
  match magicMismatch m with
  | some i => raiseFault .badMagic (BitVec.ofNat 32 i) s
  | none => startRead .numEntries s

/-- What follows the last bit of field f, which read as v (R195). -/
def afterRead (f : RField) (v : Word) (s : State) : State :=
  match f with
  | .magic m =>
    if m.length + 1 < 8 then startRead (.magic (m ++ [v.setWidth 8])) s
    else checkMagic (m ++ [v.setWidth 8]) s
  | .numEntries => startRead (.sym 0#8 (entryCount (v.setWidth 8))) s
  | .sym e n => startRead (.len e n (v.setWidth 8)) s
  | .len e n sym =>
    if v.setWidth 5 = 0#5 then raiseFault .badLength (e.setWidth 32) s
    else startRead (.val e n sym (v.setWidth 5)) s
  | .val e n sym len => afterCode e n sym len (v.setWidth 31) s
  | .payload => complete .headerRead { s with payloadCount := v }

/-- One event of READ_HEADER's pseudocode (R195). Where a bit step has to pop and the input FIFO
is empty, the engine waits: the state is unchanged (R140, R145). -/
def readEvent (p : ReadPt) (s : State) : State :=
  match p with
  | .start => startRead (.magic []) (clearDtab (bitReaderReset s))
  | .bits f 0 acc => afterRead f acc s
  | .bits f (n + 1) acc =>
    match readBit s with
    | .wait => s
    | .eos s' => goto (.readHeader .underflow) s'
    | .bit b s' => goto (.readHeader (.bits f n (accShift acc b))) s'
  | .underflow => raiseFault .underflow s.progress s

/-- READ_HEADER (R195). The next event of the command READ_HEADER: its acceptance while no command
runs, its next engine event while it runs; while another runs, the word is ignored (R110). -/
def execReadHeader (s : State) : Host.Outcome State Fault Refusal :=
  match s.busy, s.seq with
  | true, .readHeader p => .next (readEvent p s)
  | _, _ => .next (offer .readHeader s)

end Sys2Proof.Machine
end

