-- ==== Sys2Proof/Machine/Dispatch.lean ====
section
/-! DEFINITION. exec: one arm per command. -/

namespace Sys2Proof.Machine

open Sys2Proof

/-- The next event of command i (spec/40_control.md R110; each command's own rule). -/
def exec (i : Instr) (s : State) : Host.Outcome State Fault Refusal :=
  match i with
  | .clear => Sys2Proof.Machine.execClear s
  | .count => Sys2Proof.Machine.execCount s
  | .build => Sys2Proof.Machine.execBuild s
  | .writeHeader => Sys2Proof.Machine.execWriteHeader s
  | .encode => Sys2Proof.Machine.execEncode s
  | .readHeader => Sys2Proof.Machine.execReadHeader s
  | .decode => Sys2Proof.Machine.execDecode s

end Sys2Proof.Machine
end

