-- ==== Sys2Proof/Machine/Bus.lean ====
section
/-! DEFINITION. The register window and the host's accesses (R22 to R43, R54 of spec/10_state.md,
R65 of spec/20_memory.md, R110 and R120 to R130 of spec/40_control.md), and the reset event (R261 of
spec/70_reset_and_hazards.md). -/

namespace Sys2Proof.Machine

open Sys2Proof

/-- The offset of a register (R22). -/
def regOffset : Reg → Nat
  | .id => 0x00
  | .config => 0x04
  | .ctrl => 0x08
  | .cmd => 0x0C
  | .status => 0x10
  | .intEn => 0x14
  | .intStatus => 0x18
  | .faultInfo => 0x1C
  | .inData => 0x20
  | .fifoCtrl => 0x24
  | .outData => 0x28
  | .fifoStatus => 0x2C
  | .progress => 0x30
  | .total => 0x34
  | .numEntries => 0x38
  | .payloadCount => 0x3C
  | .index => 0x40
  | .histData => 0x44
  | .codeLenData => 0x48
  | .codeValData => 0x4C
  | .dtabNum => 0x50
  | .dtabSym => 0x54
  | .dtabVal => 0x58

/-- The register at an offset; `none` at a reserved offset (R22, R61). -/
def regAt (off : Nat) : Option Reg :=
  match off with
  | 0x00 => some .id
  | 0x04 => some .config
  | 0x08 => some .ctrl
  | 0x0C => some .cmd
  | 0x10 => some .status
  | 0x14 => some .intEn
  | 0x18 => some .intStatus
  | 0x1C => some .faultInfo
  | 0x20 => some .inData
  | 0x24 => some .fifoCtrl
  | 0x28 => some .outData
  | 0x2C => some .fifoStatus
  | 0x30 => some .progress
  | 0x34 => some .total
  | 0x38 => some .numEntries
  | 0x3C => some .payloadCount
  | 0x40 => some .index
  | 0x44 => some .histData
  | 0x48 => some .codeLenData
  | 0x4C => some .codeValData
  | 0x50 => some .dtabNum
  | 0x54 => some .dtabSym
  | 0x58 => some .dtabVal
  | _ => none

/-- The DTAB_SYM word: bit 31 valid, [12:8] len, [7:0] sym (R43). -/
def dtabSymWord (d : DtabEntry) : Word :=
  BitVec.ofBool d.valid ++ (0 : BitVec 18) ++ d.len ++ d.sym

/-- The word an OUT_DATA read returns (R34, R130): VALID and the oldest byte, or 0. -/
def outDataWord (s : State) : Word :=
  match s.outFifo with
  | [] => 0#32
  | b :: _ => (1 : BitVec 24) ++ b

/-- The defined value of a register (R23 to R43, R120). WO registers read 0. -/
def regValue (r : Reg) (s : State) : Word :=
  match r with
  | .id => 0x48554646#32
  | .config => configWord s
  | .ctrl => 0#32
  | .cmd => s.cmdWord
  | .status => statusWord s
  | .intEn => s.intEn.setWidth 32
  | .intStatus => s.intStatus.setWidth 32
  | .faultInfo => s.faultInfo
  | .inData => 0#32
  | .fifoCtrl => 0#32
  | .outData => outDataWord s
  | .fifoStatus => fifoStatusWord s
  | .progress => s.progress
  | .total => s.total
  | .numEntries => s.numEntries.setWidth 32
  | .payloadCount => s.payloadCount
  | .index => s.index.setWidth 32
  | .histData => tabGet s.hist s.index
  | .codeLenData => (tabGet s.codeLen s.index).setWidth 32
  | .codeValData => (tabGet s.codeVal s.index).setWidth 32
  | .dtabNum => s.dnum.setWidth 32
  | .dtabSym => dtabSymWord (tabGet s.dtab s.index)
  | .dtabVal => (tabGet s.dtab s.index).val.setWidth 32

/-- The bits that are not reserved in a register whose read is unspecified while BUSY = 1; `none`
for a register whose read is always defined (R54). -/
def busyMask : Reg → Option Word
  | .total => some 0xFFFFFFFF#32
  | .numEntries => some 0x000001FF#32
  | .payloadCount => some 0xFFFFFFFF#32
  | .histData => some 0xFFFFFFFF#32
  | .codeLenData => some 0x0000001F#32
  | .codeValData => some 0x7FFFFFFF#32
  | .dtabNum => some 0x000001FF#32
  | .dtabSym => some 0x80001FFF#32
  | .dtabVal => some 0x7FFFFFFF#32
  | _ => none

/-- A 32-bit read of a register (R120): its value, and the state after it. Only OUT_DATA's read
changes the HUFF (R130). While BUSY = 1 the registers of R54 return a free value with the reserved
bits 0. -/
def readReg (r : Reg) (s : State) : Word × State :=
  match s.busy, busyMask r with
  | true, some m => (Config.freeWord s.draws &&& m, { s with draws := s.draws + 1 })
  | _, _ =>
    match r with
    | .outData => (regValue .outData s, { s with outFifo := s.outFifo.tail })
    | _ => (regValue r s, s)

/-- A reset, as one event (R260, R261): every element of the HUFF at its reset value. The
parameters, the host's program, the values it has read and the model's choices are not the HUFF's
and stay. -/
def resetEvent (s : State) : State :=
  { State.powerOn s.params with
    program := s.program
    reads := s.reads
    turns := s.turns
    draws := s.draws }

/-- A write of w to CMD (R110). A valid word whose turn it is runs the command's acceptance. -/
def writeCmd (w : Word) (s : State) : Host.Outcome State Fault Refusal :=
  if ignores w s then .next (ignoreWord s)
  else
    match decode w with
    | none => .next (offerIllegal w s)
    | some i => exec i s

/-- IN_FLUSH (R124). -/
def inFlush (s : State) : State := { s with inFifo := [], inOvf := false }

/-- OUT_FLUSH (R125). -/
def outFlush (s : State) : State := { s with outFifo := [] }

/-- A write of v to FIFO_CTRL: IN_FLUSH, then PUSH_EOS, then OUT_FLUSH (R33, R123 to R125). -/
def writeFifoCtrl (v : Word) (s : State) : State :=
  let s1 := if v.getLsbD 1 then inFlush s else s
  let s2 := if v.getLsbD 0 then pushToken .eos s1 else s1
  if v.getLsbD 2 then outFlush s2 else s2

/-- A 32-bit write of v to a register (R121 to R129). Writes to RO registers are ignored. -/
def writeReg (r : Reg) (v : Word) (s : State) : Host.Outcome State Fault Refusal :=
  match r with
  | .ctrl => .next (if v.getLsbD 0 then resetEvent s else s)
  | .cmd => writeCmd v s
  | .intEn => .next { s with intEn := v.setWidth 2 }
  | .intStatus => .next { s with intStatus := s.intStatus &&& ~~~(v.setWidth 2) }
  | .inData => .next (pushToken (.byte (v.setWidth 8)) s)
  | .fifoCtrl => .next (writeFifoCtrl v s)
  | .index => .next { s with index := v.setWidth 8 }
  | .id => .next s
  | .config => .next s
  | .status => .next s
  | .faultInfo => .next s
  | .outData => .next s
  | .fifoStatus => .next s
  | .progress => .next s
  | .total => .next s
  | .numEntries => .next s
  | .payloadCount => .next s
  | .histData => .next s
  | .codeLenData => .next s
  | .codeValData => .next s
  | .dtabNum => .next s
  | .dtabSym => .next s
  | .dtabVal => .next s

/-- A read at an offset of the window: a reserved offset reads 0 (R61, R120). -/
def readOffset (off : Nat) (s : State) : Word × State :=
  match regAt off with
  | some r => readReg r s
  | none => (0#32, s)

/-- A write at an offset of the window: at a reserved offset it is ignored (R61, R121). -/
def writeOffset (off : Nat) (v : Word) (s : State) : Host.Outcome State Fault Refusal :=
  match regAt off with
  | some r => writeReg r v s
  | none => .next s

/-- What is wrong with an access before it reaches a register: another master (R246), an address
outside the window (R8, R61), a width or an alignment that is not supported (R65). The order of the three checks,
and that an access wider than 32 bits is refused, are the model's (DEDUCED, log entry 6). Safe. -/
def accessRefusal (p : Params) (a : BusAccess) : Option Refusal :=
  if a.master ≠ .host then some .secondHost
  else if a.addr < p.base ∨ p.base + 256 ≤ a.addr then some .outsideWindow
  else if a.width ≠ .word ∨ (a.addr - p.base) % 4 ≠ 0 then some .unsupportedAccess
  else none

end Sys2Proof.Machine
end

