-- ==== Sys2Proof/Machine/Agents.lean ====
section
/-! DEFINITION. The two agents and their interleaving (R13 of spec/00_scope.md, R69 of
spec/20_memory.md), and the host's program lines (R86, R87 of spec/30_encoding.md; R264, R265 of
spec/70_reset_and_hazards.md). -/

namespace Sys2Proof.Machine

open Sys2Proof

/-! ## The host -/

/-- A 32-bit access of the host to a named register (R86). -/
def regAccess (p : Params) (r : Reg) (op : BusOp) : BusAccess where
  master := .host
  width := .word
  addr := p.base + regOffset r
  op := op

/-- The bus access that pushes a token (R86 `push` and `eos`). -/
def tokenAccess (p : Params) : Token → BusAccess
  | .byte b => regAccess p .inData (.write (b.setWidth 32))
  | .eos => regAccess p .fifoCtrl (.write 1)

/-- The next access of a stream line; `none` where there is no command left to issue. -/
def streamAccess (p : Params) (cmds : List Instr) : StreamPt → Option BusAccess
  | .issue => cmds.head?.map (fun i => regAccess p .cmd (.write (encode i)))
  | .status => some (regAccess p .status .read)
  | .fifo => some (regAccess p .fifoStatus .read)
  | .pop _ => some (regAccess p .outData .read)
  | .push t => some (tokenAccess p t)

/-- The next bus access a line of the host's program makes (R86); `none` for a line that makes none
(an empty push or pop, the platform's reset). -/
def lineAccess (p : Params) : HostLine → Option BusAccess
  | .wr r v => some (regAccess p r (.write v))
  | .rd r => some (regAccess p r .read)
  | .rdUntil r _ => some (regAccess p r .read)
  | .cmd i => some (regAccess p .cmd (.write (encode i)))
  | .push [] => none
  | .push (b :: _) => some (regAccess p .inData (.write (b.setWidth 32)))
  | .eos => some (regAccess p .fifoCtrl (.write 1))
  | .pop 0 => none
  | .pop (_ + 1) => some (regAccess p .outData .read)
  | .drain => some (regAccess p .outData .read)
  | .wait => some (regAccess p .status .read)
  | .access a => some a
  | .stream cmds _ pt => streamAccess p cmds pt
  | .platformReset => none

/-- What is left of a line after one write (R86). -/
def afterWrite : HostLine → List HostLine
  | .push (_ :: b :: bs) => [.push (b :: bs)]
  | .stream cmds ts .issue => [.stream cmds.tail ts .status]
  | .stream cmds ts (.push _) => [.stream cmds ts .status]
  | _ => []

/-- What a stream line does after a STATUS read that returned v: while BUSY = 1 it looks at the FIFOs;
then it issues the next command, or ends (R87). Tokens left then belong to no command. -/
def afterStatus (v : Word) (cmds : List Instr) (ts : List Token) : List HostLine :=
  if v.getLsbD 0 then [.stream cmds ts .fifo]
  else if cmds = [] then []
  else [.stream cmds ts .issue]

/-- What a stream line does after a FIFO_STATUS read that returned v: it takes a byte unless OUT_EMPTY, then
pushes the next token unless IN_FULL, then polls again (R35, R270: "The host must check IN_FULL before
each push"). -/
def afterFifo (v : Word) (cmds : List Instr) (ts : List Token) : List HostLine :=
  match v.getLsbD 24, v.getLsbD 25, ts with
  | false, true, t :: ts' => [.stream cmds ts' (.push t)]
  | false, false, t :: ts' => [.stream cmds ts' (.pop (some t))]
  | _, true, ts => [.stream cmds ts .status]
  | _, false, ts => [.stream cmds ts (.pop none)]

/-- What is left of a line after one read that returned v (R86): `drain` reads until VALID = 0,
`wait` until BUSY = 0. -/
def afterReadOf (v : Word) : HostLine → List HostLine
  | .rdUntil r x => if v = x then [] else [.rdUntil r x]
  | .pop (n + 2) => [.pop (n + 1)]
  | .drain => if v.getLsbD 8 then [.drain] else []
  | .wait => if v.getLsbD 0 then [.wait] else []
  | .stream cmds ts .status => afterStatus v cmds ts
  | .stream cmds ts .fifo => afterFifo v cmds ts
  | .stream cmds ts (.pop (some t)) => [.stream cmds ts (.push t)]
  | .stream cmds ts (.pop none) => [.stream cmds ts .status]
  | _ => []

/-- One access of the host reaches the HUFF; `line` is the line that makes it and `rest` the lines
after it. A read's offset and value are added to the host's record. -/
def performAccess (a : BusAccess) (line : HostLine) (rest : List HostLine) (s : State) :
    Host.Outcome State Fault Refusal :=
  match accessRefusal s.params a with
  | some r => .refused r
  | none =>
    match a.op with
    | .write v => writeOffset (a.addr - s.params.base) v { s with program := afterWrite line ++ rest }
    | .read =>
      let r := readOffset (a.addr - s.params.base) s
      .next { r.2 with
        program := afterReadOf r.1 line ++ rest
        reads := r.2.reads ++ [(a.addr - s.params.base, r.1)] }

/-- One event of the host or the platform: the next access of the host's program (R67, R69), or the
reset input (R261). With nothing left to do, nothing happens. DESIGN CHOICE (log entry 15): the reset input
is a line of the program, so it comes in program order and not between two accesses of one line; the spec
is silent on when it comes. -/
def hostStep (s : State) : Host.Outcome State Fault Refusal :=
  match s.program with
  | [] => .next s
  | .platformReset :: rest => .next (resetEvent { s with program := rest })
  | line :: rest =>
    match lineAccess s.params line with
    | none => .next { s with program := rest }
    | some a => performAccess a line rest s

/-- The host has an event to take. -/
def hostReady (s : State) : Bool := !s.program.isEmpty

/-! ## The engine -/

/-- One event of the engine: the next event of the command that runs; no step while BUSY = 0 (R111). -/
def engineStep (s : State) : Host.Outcome State Fault Refusal :=
  match s.busy, runningOf s.seq with
  | true, some i => exec i s
  | _, _ => .next s

/-- n engine events in a row, no host event between them: stops at the model's own fault. -/
def engineRun : Nat → State → Host.Outcome State Fault Refusal
  | 0, s => .next s
  | n + 1, s =>
    match engineStep s with
    | .next t => engineRun n t
    | .fault r => .fault r
    | .refused r => .refused r

/-! ## The interleaving -/

/-- One event of the one interleaving (R69). Where only one agent has an event to take, it takes it;
where both have, the next entry of `turns` says which one moves, and after those a free value
(log entry 4). Where neither has, the HUFF waits and nothing changes (R111, R140, R141, R248). -/
def interleave (s : State) : Host.Outcome State Fault Refusal :=
  match hostReady s, engineReady s with
  | false, false => .next s
  | true, false => hostStep s
  | false, true => engineStep s
  | true, true =>
    match s.turns with
    | .host :: ts => hostStep { s with turns := ts }
    | .engine :: ts => engineStep { s with turns := ts }
    | [] =>
      if Config.freeTurn s.draws then hostStep { s with draws := s.draws + 1 }
      else engineStep { s with draws := s.draws + 1 }

/-! ## Host sequences the spec names -/

/-- The tokens of an input stream: its bytes, then EOS (R50). -/
def streamTokens (data : List Byte) : List Token := data.map .byte ++ [.eos]

/-- ENCODE_STREAM(data) (R87): COUNT with the data, BUILD, WRITE_HEADER, ENCODE with the data again, each
waited for, with pushes, pops and polls interleaved, so that data and container may be longer than the
FIFOs; then what is left is drained. -/
def encodeStream (data : List Byte) : List HostLine :=
  [.stream [.count] (streamTokens data) .issue,
   .stream [.build, .writeHeader] [] .issue,
   .stream [.encode] (streamTokens data) .issue,
   .drain]

/-- DECODE_STREAM(container) (R87): READ_HEADER and DECODE share the one input stream, which is pushed
while they run; leftover input is discarded at the end. -/
def decodeStream (container : List Byte) : List HostLine :=
  [.stream [.readHeader, .decode] (streamTokens container) .issue,
   .drain,
   .wr .fifoCtrl 0x2#32]

/-- The bytes the host has drained, in order: the values of its OUT_DATA reads with VALID = 1 (R34, R87). -/
def drainedBytes (s : State) : List Byte :=
  (s.reads.filter (fun x => x.1 == regOffset .outData && x.2.getLsbD 8)).map (fun x => x.2.setWidth 8)

/-- The recommended start-up of the host (R264). -/
def bootLines (mask : Word) : List HostLine :=
  [.rd .id, .rd .config, .wr .intStatus 0x3#32, .wr .intEn mask]

/-- What the host does before a stream: IN_FLUSH (R265). -/
def flushInLines : List HostLine := [.wr .fifoCtrl 0x2#32]

/-- What the host does before it takes a stream's output: OUT_FLUSH (R265). -/
def flushOutLines : List HostLine := [.wr .fifoCtrl 0x4#32]

end Sys2Proof.Machine
end

