-- ==== Sys2Proof/Machine/Step.lean ====
section
/-! DEFINITION. step: one event of the interleaving of host and engine. -/

namespace Sys2Proof.Machine

open Sys2Proof

/-- One event (R67, R69 of spec/20_memory.md). -/
def step (s : State) : Host.Outcome State Fault Refusal := interleave s

/-- s with the command word w as the host's next access, a write to CMD, and with the next free
choice, if there is one to make, given to the host, so that the next step offers w to the engine
(R21, R26, R110; log entry 9). Nothing else changes. -/
def State.withFetchWord (s : State) (nbits w : Nat) : State :=
  { s with
    program := .wr .cmd (BitVec.ofNat 32 (w % 2 ^ nbits)) :: s.program
    turns := if engineReady s then .host :: s.turns else s.turns }

end Sys2Proof.Machine
end

