-- ==== Sys2Proof/Machine/Container.lean ====
section
/-! DEFINITION. The container format as a bit sequence (spec/30_encoding.md R90 to R99,
spec/20_memory.md R62, R63): what WRITE_HEADER and ENCODE have to produce and READ_HEADER and
DECODE to take apart. The engine does not call it; claims are stated in its terms. -/

namespace Sys2Proof.Machine

open Sys2Proof

/-- The low n bits of v, most significant first (R63). -/
def wordBits (v : Word) : Nat → List Bool
  | 0 => []
  | n + 1 => v.getLsbD n :: wordBits v n

/-- Byte j of a bit sequence: bit k of the sequence is bit 7 - (k mod 8) of byte k / 8 (R62); past
the end the sequence is padded with zero bits (R98). -/
def byteAt (l : List Bool) (j : Nat) : Byte :=
  (List.range 8).foldl (fun b i => b.shiftConcat (l.getD (8 * j + i) false)) 0#8

/-- The whole bytes of a bit sequence; up to 7 bits at the end are left over. -/
def wholeBytes (l : List Bool) : List Byte := (List.range (l.length / 8)).map (byteAt l)

/-- A bit sequence as bytes, padded with zero bits to a whole byte (R98, R99). -/
def packed (l : List Bool) : List Byte := (List.range ((l.length + 7) / 8)).map (byteAt l)

/-- The bits of a byte, most significant first (R62). -/
def byteBits (b : Byte) : List Bool := wordBits (b.setWidth 32) 8

/-- The bits of a byte sequence (R62). -/
def unpacked (bs : List Byte) : List Bool := bs.flatMap byteBits

/-- The codeword (L, V) as a bit string (R10). -/
def codewordBits (len : BitVec 5) (val : BitVec 31) : List Bool := wordBits (val.setWidth 32) len.toNat

/-- An entry: symbol, length, codeword (R94). -/
def entryBits (x : Byte × BitVec 5 × BitVec 31) : List Bool :=
  wordBits (x.1.setWidth 32) 8 ++ wordBits (x.2.1.setWidth 32) 5 ++ codewordBits x.2.1 x.2.2

/-- The header of a table of entries and a payload count: magic, num_entries (n mod 256), entries,
payload count, with no gaps (R90, R91, R93). -/
def headerBits (es : List (Byte × BitVec 5 × BitVec 31)) (count : Word) : List Bool :=
  unpacked magic ++ wordBits (BitVec.ofNat 32 (es.length % 256)) 8 ++ es.flatMap entryBits
    ++ wordBits count 32

/-- The entries of a code table in ascending symbol order, one for each symbol with a codeword
(R95, R192). -/
def tableEntries (len : Vector (BitVec 5) 256) (val : Vector (BitVec 31) 256) :
    List (Byte × BitVec 5 × BitVec 31) :=
  (((List.range 256).map (BitVec.ofNat 8)).filter (fun b => tabGet len b != 0#5)).map
    (fun b => (b, tabGet len b, tabGet val b))

/-- The payload: the codewords of the bytes, in order, with no separators (R97). -/
def payloadBits (len : Vector (BitVec 5) 256) (val : Vector (BitVec 31) 256) (bs : List Byte) :
    List Bool :=
  bs.flatMap (fun b => codewordBits (tabGet len b) (tabGet val b))

/-- The container of a code table, a payload count and the original bytes (R90, R98). -/
def container (len : Vector (BitVec 5) 256) (val : Vector (BitVec 31) 256) (count : Word)
    (bs : List Byte) : List Byte :=
  packed (headerBits (tableEntries len val) count ++ payloadBits len val bs)

/-- The bits a writer holds: the low BW_CNT bits of BW_BUF, the oldest first (R46). -/
def heldBits (buf : Byte) (cnt : BitVec 3) : List Bool := wordBits (buf.setWidth 32) cnt.toNat

/-- The unread bits of a reader: the low BR_CNT bits of BR_BUF (R46). -/
def unreadBits (buf : Byte) (cnt : BitVec 4) : List Bool := wordBits (buf.setWidth 32) cnt.toNat

/-- A sequence of BitWrites (R142): the bytes pushed and what is held at the end. -/
def writeAll : List (Word × Nat) → Byte → BitVec 3 → List Byte × Byte × BitVec 3
  | [], buf, cnt => ([], buf, cnt)
  | x :: xs, buf, cnt =>
    let r := bitWrite x.1 x.2 buf cnt
    let t := writeAll xs r.2.1 r.2.2
    (r.1 ++ t.1, t.2)

/-- The bytes of a sequence of BitWrites from an empty writer, then BitFlush (R142, R144). -/
def writeAndFlush (xs : List (Word × Nat)) : List Byte :=
  let r := writeAll xs 0#8 0#3
  if r.2.2 = 0#3 then r.1 else r.1 ++ [flushByte r.2.1 r.2.2]

/-- A sequence of BitReads of the given widths (R145): the values read, and what is left; `none` when
the bytes run out. -/
def readAll : List Nat → Byte → BitVec 4 → List Byte → Option (List Word × Byte × BitVec 4 × List Byte)
  | [], buf, cnt, bs => some ([], buf, cnt, bs)
  | n :: ns, buf, cnt, bs =>
    match bitRead n 0#32 buf cnt bs with
    | none => none
    | some (v, buf', cnt', bs') =>
      match readAll ns buf' cnt' bs' with
      | none => none
      | some (vs, r) => some (v :: vs, r)

end Sys2Proof.Machine
end

