-- ==== Sys2Proof/Safety.lean ====
section
/-! DEFINITION. What claims about HUFF are stated in: the invariants of a sound state, what one
event leaves unchanged, prefix codes, and fair runs (spec/70_reset_and_hazards.md R280). -/

namespace Sys2Proof.Machine

open Sys2Proof

/-! ## Invariants -/

/-- The FIFOs hold at most their depth (R50, R51). -/
def FifoBounds (s : State) : Prop :=
  s.inFifo.length ≤ s.params.inDepth.toNat ∧ s.outFifo.length ≤ s.params.outDepth.toNat

/-- BUSY says whether a command runs, CMD_WORD is its word (R21, R26, R111); FAULT says whether there is
a fault code, and without a fault FAULT_INFO is 0 (R27, R30); in the fault state only CLEAR runs
(R110, R239). -/
structure ControlOk (s : State) : Prop where
  busy_iff : s.busy = (runningOf s.seq).isSome
  word_runs : s.busy = true → decode s.cmdWord = runningOf s.seq
  fault_iff : s.fault = true ↔ s.faultCode ≠ .none
  info_zero : s.fault = false → s.faultInfo = 0
  only_clear : s.fault = true → s.busy = true → s.seq = .clear

/-- The bit adapters between bit steps: BW_BUF < 2^BW_CNT (R142), and BR_CNT at most 7 (R46). -/
def AdaptersOk (s : State) : Prop :=
  s.bwBuf.toNat < 2 ^ s.bwCnt.toNat ∧ s.brCnt.toNat ≤ 7

/-- Σ HIST[s] over all symbols (R48). -/
def histSum (h : Vector Word 256) : Nat := (h.toList.map BitVec.toNat).sum

/-- TOTAL = Σ HIST[s] (R48, R161). -/
def HistOk (s : State) : Prop := s.total.toNat = histSum s.hist

/-- CODE_VAL[b] < 2^CODE_LEN[b] (R44). -/
def CodesOk (s : State) : Prop :=
  ∀ b : Byte, (tabGet s.codeVal b).toNat < 2 ^ (tabGet s.codeLen b).toNat

/-- The decoder table (R45, R94, R198): the valid entries are those below DNUM, their lengths are 1 to
31, their values fit, and no two hold the same codeword. -/
structure DtabOk (s : State) : Prop where
  dnum_le : s.dnum.toNat ≤ 256
  valid_iff : ∀ e : Byte, (tabGet s.dtab e).valid = true ↔ e.toNat < s.dnum.toNat
  len_pos : ∀ e : Byte, (tabGet s.dtab e).valid = true → (tabGet s.dtab e).len ≠ 0#5
  val_lt : ∀ e : Byte, (tabGet s.dtab e).valid = true →
    (tabGet s.dtab e).val.toNat < 2 ^ (tabGet s.dtab e).len.toNat
  distinct : ∀ i j : Byte, (tabGet s.dtab i).valid = true → (tabGet s.dtab j).valid = true →
    (tabGet s.dtab i).len = (tabGet s.dtab j).len → (tabGet s.dtab i).val = (tabGet s.dtab j).val →
    i = j

/-- The local variables of READ_HEADER at field f: the magic bytes read so far, the entry index,
which is DNUM, below the entry count, and a length that is not 0 (R195). -/
def FieldOk (s : State) : RField → Prop
  | .magic m => m.length < 8 ∧ s.dnum = 0#9
  | .numEntries => s.dnum = 0#9
  | .sym e n => e.toNat = s.dnum.toNat ∧ e.toNat < n ∧ n ≤ 256
  | .len e n _ => e.toNat = s.dnum.toNat ∧ e.toNat < n ∧ n ≤ 256
  | .val e n _ l => e.toNat = s.dnum.toNat ∧ e.toNat < n ∧ n ≤ 256 ∧ l ≠ 0#5
  | .payload => True

/-- READ_HEADER's position: the accumulator holds the bits read of the field, and PROGRESS and DNUM are
both the number of complete entries (R36, R145, R195). -/
def ReadOk (s : State) : Prop :=
  match s.seq with
  | .readHeader (.bits f n acc) =>
    n ≤ readWidth f ∧ acc.toNat < 2 ^ (readWidth f - n) ∧ s.progress.toNat = s.dnum.toNat ∧ FieldOk s f
  | .readHeader .start => s.progress = 0#32
  | .readHeader .underflow => s.progress.toNat = s.dnum.toNat
  | _ => True

/-- BUILD after its first event: in the loop the node store has room for the merges still to do (R47,
R174), and the code table is clear until it is written at the end (R170). -/
structure BuildOk (s : State) : Prop where
  room : s.seq = .build .merge → s.queue.length + s.nextSeq.toNat ≤ 512
  clear : s.seq = .build .merge ∨ s.seq = .build .flatten →
    s.codeLen = Vector.replicate 256 0#5 ∧ s.codeVal = Vector.replicate 256 0#31 ∧ s.numEntries = 0#9

/-- The invariant of every state a run reaches. -/
structure Inv (s : State) : Prop where
  params : s.params.wellFormed = true
  fifos : FifoBounds s
  control : ControlOk s
  adapters : AdaptersOk s
  hist : HistOk s
  codes : CodesOk s
  dtab : DtabOk s
  read : ReadOk s
  build : BuildOk s

/-! ## What an event leaves unchanged -/

/-- What no event of the engine changes: the parameters, INT_EN, INDEX, IN_OVF (R35, R40, R52), and the
host's and the model's own fields. -/
structure SameOutside (s t : State) : Prop where
  params : t.params = s.params
  intEn : t.intEn = s.intEn
  index : t.index = s.index
  inOvf : t.inOvf = s.inOvf
  program : t.program = s.program
  reads : t.reads = s.reads
  turns : t.turns = s.turns
  draws : t.draws = s.draws

/-- HIST and TOTAL are unchanged. -/
def SameHist (s t : State) : Prop := t.hist = s.hist ∧ t.total = s.total

/-- The code table and NUM_ENTRIES are unchanged. -/
def SameCodes (s t : State) : Prop :=
  t.codeLen = s.codeLen ∧ t.codeVal = s.codeVal ∧ t.numEntries = s.numEntries

/-- The decoder table and DNUM are unchanged. -/
def SameDtab (s t : State) : Prop := t.dtab = s.dtab ∧ t.dnum = s.dnum

/-- The bit writer is unchanged. -/
def SameWriter (s t : State) : Prop := t.bwBuf = s.bwBuf ∧ t.bwCnt = s.bwCnt

/-- The bit reader is unchanged. -/
def SameReader (s t : State) : Prop := t.brBuf = s.brBuf ∧ t.brCnt = s.brCnt

/-- The node store, QUEUE and NEXT_SEQ are unchanged. Outside BUILD the spec leaves their content unspecified (R47,
I24 of spec/93_implementation_defined.md: any value); that every event outside BUILD keeps it is a DESIGN CHOICE
(log entry 2). Unsafe in form. -/
def SameTree (s t : State) : Prop := t.node = s.node ∧ t.queue = s.queue ∧ t.nextSeq = s.nextSeq

/-- ACC and ACC_LEN are unchanged. -/
def SameAcc (s t : State) : Prop := t.acc = s.acc ∧ t.accLen = s.accLen

/-- FAULT, FAULT_CODE and FAULT_INFO are unchanged, or the event raised a fault (R236). -/
def FaultKeptOrRaised (s t : State) : Prop :=
  (t.fault = s.fault ∧ t.faultCode = s.faultCode ∧ t.faultInfo = s.faultInfo) ∨
    (t.fault = true ∧ t.faultCode ≠ .none ∧ t.busy = false ∧ t.phase = s.phase)

/-- PHASE is unchanged, or the event completed the command, whose phase is p (R112, R115). -/
def PhaseKeptOr (p : Phase) (s t : State) : Prop :=
  t.phase = s.phase ∨ (t.phase = p ∧ s.busy = true ∧ t.busy = false)

/-- CMD_WORD is unchanged, or command i was accepted (R26, R110). -/
def WordKeptOr (i : Instr) (s t : State) : Prop :=
  t.cmdWord = s.cmdWord ∨ (t.cmdWord = encode i ∧ s.busy = false)

/-- CMD_IGN is changed only by an offered word (R27, R110): an event of the running command i leaves it
alone. -/
def IgnKept (i : Instr) (s t : State) : Prop :=
  s.busy = true → runningOf s.seq = some i → t.cmdIgn = s.cmdIgn

/-- INT_STATUS is unchanged, or a completion set DONE_IP, or a fault set FAULT_IP (R29, R241). -/
def PendingKeptOrSet (s t : State) : Prop :=
  t.intStatus = s.intStatus ∨
    (t.intStatus = s.intStatus ||| 1#2 ∧ s.busy = true ∧ t.busy = false) ∨
    (t.intStatus = s.intStatus ||| 2#2 ∧ t.fault = true ∧ t.busy = false)

/-- The input FIFO is unchanged, or lost its oldest token (R70, R140). -/
def InKeptOrPopped (s t : State) : Prop := t.inFifo = s.inFifo ∨ ∃ x, s.inFifo = x :: t.inFifo

/-- The output FIFO is unchanged, or gained one byte at its end, where there was room (R70, R141). -/
def OutKeptOrPushed (s t : State) : Prop :=
  t.outFifo = s.outFifo ∨
    ∃ b, t.outFifo = s.outFifo ++ [b] ∧ s.outFifo.length < s.params.outDepth.toNat

/-- What an event of any command i other than CLEAR, with completion phase p, leaves of the control
state, of the FIFOs and of the surroundings (R26, R27, R29, R70, R113, R115, R236). PROGRESS, in which
the command counts (R36), BUSY and the sequencer position may change. -/
structure CommandFrame (i : Instr) (p : Phase) (s t : State) : Prop where
  outside : SameOutside s t
  fault : FaultKeptOrRaised s t
  phase : PhaseKeptOr p s t
  word : WordKeptOr i s t
  ign : IgnKept i s t
  pending : PendingKeptOrSet s t
  input : InKeptOrPopped s t
  output : OutKeptOrPushed s t

/-! ## Prefix codes -/

/-- The codeword (la, va) is a prefix of the codeword (lb, vb) (R10, R14). -/
def CodePrefix (la va lb vb : Nat) : Prop := la ≤ lb ∧ vb / 2 ^ (lb - la) = va

/-- No codeword of the table is a prefix of another's (R14, R179). -/
def PrefixFree (len : Vector (BitVec 5) 256) (val : Vector (BitVec 31) 256) : Prop :=
  ∀ a b : Byte, a ≠ b → tabGet len a ≠ 0#5 → tabGet len b ≠ 0#5 →
    ¬ CodePrefix (tabGet len a).toNat (tabGet val a).toNat (tabGet len b).toNat (tabGet val b).toNat

/-- No codeword of the entries is a prefix of another entry's. -/
def EntriesPrefixFree (es : List (Byte × BitVec 5 × BitVec 31)) : Prop :=
  es.Pairwise (fun x y =>
    ¬ CodePrefix x.2.1.toNat x.2.2.toNat y.2.1.toNat y.2.2.toNat ∧
    ¬ CodePrefix y.2.1.toNat y.2.2.toNat x.2.1.toNat x.2.2.toNat)

/-! ## Runs -/

/-- An infinite run: one event after another (R69). -/
def Run (r : Nat → State) : Prop := ∀ n, step (r n) = .next (r (n + 1))

/-- The next event of s is the engine's. -/
def engineMoves (s : State) : Prop :=
  engineReady s = true ∧
    (hostReady s = false ∨ (∃ ts, s.turns = .engine :: ts) ∨
      (s.turns = [] ∧ Config.freeTurn s.draws = false))

/-- Weak fairness: an engine step that stays enabled is eventually taken (R280). -/
def WeaklyFair (r : Nat → State) : Prop :=
  ∀ n, (∀ m, n ≤ m → engineReady (r m) = true) → ∃ m, n ≤ m ∧ engineMoves (r m)

end Sys2Proof.Machine
end

