-- ==== Sys2Proof/Certificates/Slice0/Obligations.lean ====
section
/-! DEFINITION. The statements for the provers. Each docstring names the rules of spec/ it rests on. -/

open Sys2Proof Sys2Proof.Machine

/-! ## Encoding -/

/-- A few command words of R81's table, and words R83 calls illegal. -/
def Obligations.CommandWordsDecode : Prop :=
  decodeTableWord 32 0x00000001 = some .clear ∧ decodeTableWord 32 0x00000002 = some .count ∧
  decodeTableWord 32 0x00000003 = some .build ∧ decodeTableWord 32 0x00000004 = some .writeHeader ∧
  decodeTableWord 32 0x00000005 = some .encode ∧ decodeTableWord 32 0x00000006 = some .readHeader ∧
  decodeTableWord 32 0x00000007 = some .decode ∧ decodeTableWord 32 0x00000000 = none ∧
  decodeTableWord 32 0x00000008 = none ∧ decodeTableWord 32 0x00000102 = none ∧
  decodeTableWord 32 0x80000001 = none ∧ decodeTableWord 32 0xFFFFFFFF = none

/-- R82: decoding is total and exact, and encoding's inverse: a word decodes to a command exactly when it is
that command's word, the words are 1 to 7 in the table's order, and a word decodes to Illegal exactly when
it is 0 or above 7; exactly the valid words have MBZ zero and a defined opcode. -/
def Obligations.DecodeExactlyTheTable : Prop :=
  ([Instr.clear, .count, .build, .writeHeader, .encode, .readHeader, .decode].map
    (fun i => (encode i).toNat) = [1, 2, 3, 4, 5, 6, 7]) ∧
  (∀ (w : Word) (i : Instr), decode w = some i ↔ w = encode i) ∧
  (∀ w : Word, decode w = none ↔ w.toNat = 0 ∨ 7 < w.toNat) ∧
  (∀ w : Word, wordWellFormed w = true ↔ (decode w).isSome = true)

/-! ## Step and exec -/

/-- R110, R111 (a step runs the decoded instruction, at acceptance): where no command runs and the host's
next access writes to CMD a word that decodes to i, and FAULT = 0 or i is CLEAR, the step is exec of i in
the state whose host has made the access. withFetchWord places exactly such an access (the model's stand-in
for a program counter, log entry 9). -/
def Obligations.StepOffersDecodedCommand : Prop :=
  (∀ (s : State) (w : Word) (rest : List HostLine) (i : Instr),
    s.busy = false → (s.fault = false ∨ i = .clear) → s.program = .wr .cmd w :: rest →
    decode w = some i → i.wellFormed = true → step s = exec i { s with program := rest }) ∧
  (∀ (s : State) (rest : List HostLine) (i : Instr),
    s.busy = false → (s.fault = false ∨ i = .clear) → s.program = .cmd i :: rest →
    step s = exec i { s with program := rest }) ∧
  (∀ (s : State) (i : Instr),
    s.busy = false → (s.fault = false ∨ i = .clear) →
    step (s.withFetchWord 32 (encode i).toNat) = exec i s)

/-- R69, R111 (a step runs the decoded instruction, while it runs): while command i runs and does not wait
on a FIFO, a step that is the engine's is exec of i, and a step that is the host's is the host's next
access; where the command waits and the host has nothing to do, nothing changes. Which agent moves where
both can is the model's plain data (log entry 4). -/
def Obligations.StepRunsRunningCommand : Prop :=
  ∀ (s : State) (i : Instr), s.busy = true → runningOf s.seq = some i →
    (waitIn s = false → waitOut s = false → s.program = [] → step s = exec i s) ∧
    (∀ ts, waitIn s = false → waitOut s = false → s.program ≠ [] → s.turns = .engine :: ts →
      step s = exec i { s with turns := ts }) ∧
    (∀ ts, waitIn s = false → waitOut s = false → s.program ≠ [] → s.turns = .host :: ts →
      step s = hostStep { s with turns := ts }) ∧
    ((waitIn s = true ∨ waitOut s = true) → s.program ≠ [] → step s = hostStep s) ∧
    ((waitIn s = true ∨ waitOut s = true) → s.program = [] → step s = .next s)

/-- R83, R110, R231, R232: an illegal word that the engine accepts raises ILLEGAL_CMD with the whole word in
FAULT_INFO, in every PHASE, and is stored in CMD_WORD. -/
def Obligations.IllegalWordFaults : Prop :=
  ∀ (s : State) (w : Word) (rest : List HostLine),
    s.busy = false → s.fault = false → (w.toNat = 0 ∨ 7 < w.toNat) → s.program = .wr .cmd w :: rest →
    step s = .next { s with
      program := rest
      cmdIgn := false
      cmdWord := w
      progress := 0#32
      faultCode := .illegalCmd
      faultInfo := w
      fault := true
      busy := false
      intStatus := s.intStatus ||| 2#2
      seq := .idle }

/-- R110: a word written to CMD while a command runs, or in the fault state when it is not CLEAR's word,
changes nothing but CMD_IGN. The same holds of exec where another command runs (log entry 11). -/
def Obligations.IgnoredWordSetsOnlyCmdIgn : Prop :=
  (∀ (s : State) (w : Word) (rest : List HostLine),
    (s.busy = true ∨ (s.fault = true ∧ w ≠ 1#32)) → s.program = .wr .cmd w :: rest →
    hostStep s = .next { s with program := rest, cmdIgn := true }) ∧
  (∀ (s : State) (i : Instr), s.busy = true → runningOf s.seq ≠ some i →
    exec i s = .next { s with cmdIgn := true }) ∧
  (∀ (s : State) (i : Instr), s.busy = false → s.fault = true → i ≠ .clear →
    exec i s = .next { s with cmdIgn := true })

/-- R110, R112, R113, R231: a command accepted in a PHASE it may not run in raises SEQUENCE, with the opcode
in FAULT_INFO[7:0] and PHASE in [10:8]; PHASE is unchanged. -/
def Obligations.PhaseCheckFaultsSequence : Prop :=
  ∀ (s : State) (i : Instr), s.busy = false → s.fault = false →
    ((i = .build ∧ s.phase ≠ .counted) ∨ (i = .writeHeader ∧ s.phase ≠ .built) ∨
      (i = .encode ∧ s.phase ≠ .headerWritten) ∨ (i = .decode ∧ s.phase ≠ .headerRead)) →
    exec i s = .next { s with
      cmdIgn := false
      cmdWord := encode i
      progress := 0#32
      faultCode := .sequence
      faultInfo := BitVec.ofNat 32 ((phaseBits s.phase).toNat * 256 + (encode i).toNat)
      fault := true
      busy := false
      intStatus := s.intStatus ||| 2#2
      seq := .idle }

/-- R110, R112, R114: a command accepted in a PHASE it may run in starts: CMD_IGN and PROGRESS are 0,
CMD_WORD is its word, BUSY is 1, and nothing else changes but the sequencer position. CLEAR is accepted in
the fault state too. -/
def Obligations.AcceptanceStartsCommand : Prop :=
  ∀ (s : State) (i : Instr), s.busy = false → (s.fault = false ∨ i = .clear) →
    (i = .clear ∨ i = .count ∨ i = .readHeader ∨ (i = .build ∧ s.phase = .counted) ∨
      (i = .writeHeader ∧ s.phase = .built) ∨ (i = .encode ∧ s.phase = .headerWritten) ∨
      (i = .decode ∧ s.phase = .headerRead)) →
    exec i s = .next { s with
      cmdIgn := false
      cmdWord := encode i
      progress := 0#32
      busy := true
      seq := startOf i } ∧ runningOf (startOf i) = some i

/-- R111: while BUSY = 0 the engine takes no step; where the host has nothing to do either, a step changes
nothing. -/
def Obligations.EngineIdleWhileNotBusy : Prop :=
  ∀ s : State, s.busy = false →
    engineStep s = .next s ∧ (∀ n, engineRun n s = .next s) ∧ (s.program = [] → step s = .next s)

/-! ## CLEAR -/

/-- R116: CLEAR's effect. -/
def Obligations.ClearEmptiesAndLeavesFault : Prop :=
  ∀ s : State, s.busy = true → s.seq = .clear →
    exec .clear s = .next { s with
      hist := Vector.replicate 256 0#32
      codeLen := Vector.replicate 256 0#5
      codeVal := Vector.replicate 256 0#31
      dtab := Vector.replicate 256 { valid := false, sym := 0#8, len := 0#5, val := 0#31 }
      total := 0#32
      numEntries := 0#9
      dnum := 0#9
      payloadCount := 0#32
      bwBuf := 0#8
      bwCnt := 0#3
      brBuf := 0#8
      brCnt := 0#4
      fault := false
      faultCode := .none
      faultInfo := 0#32
      phase := .idle
      busy := false
      intStatus := s.intStatus ||| 1#2
      seq := .idle }

/-- R116, R239: what CLEAR leaves unchanged: the FIFOs, IN_OVF, INT_EN, FAULT_IP, INDEX, the node store, ACC
and ACC_LEN; PROGRESS is cleared at most by its acceptance; it raises no fault. That the node store,
QUEUE and NEXT_SEQ stay is the model's choice (log entry 2): R47 leaves them unspecified outside BUILD. -/
def Obligations.ClearFrame : Prop :=
  ∀ s t : State, exec .clear s = .next t →
    SameOutside s t ∧ t.inFifo = s.inFifo ∧ t.outFifo = s.outFifo ∧ SameTree s t ∧ SameAcc s t ∧
    t.intStatus.getLsbD 1 = s.intStatus.getLsbD 1 ∧
    (t.intStatus = s.intStatus ∨ (t.intStatus = s.intStatus ||| 1#2 ∧ s.busy = true ∧ t.busy = false)) ∧
    PhaseKeptOr .idle s t ∧ WordKeptOr .clear s t ∧ IgnKept .clear s t ∧
    (t.progress = s.progress ∨ (t.progress = 0#32 ∧ s.busy = false)) ∧
    ((t.fault = s.fault ∧ t.faultCode = s.faultCode ∧ t.faultInfo = s.faultInfo ∧ SameHist s t ∧
        SameCodes s t ∧ SameDtab s t ∧ SameWriter s t ∧ SameReader s t ∧
        t.payloadCount = s.payloadCount) ∨
      (s.busy = true ∧ s.seq = .clear ∧ t.fault = false ∧ t.busy = false))

/-! ## COUNT -/

/-- R160: COUNT counts a popped byte, or faults COUNT_OVERFLOW after 2^32 - 1 bytes. -/
def Obligations.CountCountsByte : Prop :=
  ∀ (s : State) (b : Byte), s.busy = true → s.seq = .count (.tally b) →
    (s.total ≠ 0xFFFFFFFF#32 →
      exec .count s = .next { s with
        hist := tabSet s.hist b (tabGet s.hist b + 1#32)
        total := s.total + 1#32
        progress := s.total + 1#32
        seq := .count .pop }) ∧
    (s.total = 0xFFFFFFFF#32 →
      exec .count s = .next { s with
        faultCode := .countOverflow
        faultInfo := BitVec.ofNat 32 b.toNat
        fault := true
        busy := false
        intStatus := s.intStatus ||| 2#2
        seq := .idle })

/-- R115, R140, R160: COUNT starts by clearing HIST and TOTAL; it takes the oldest token, or waits while there
is none; after EOS it completes to COUNTED. -/
def Obligations.CountTakesTokens : Prop :=
  ∀ s : State, s.busy = true →
    (s.seq = .count .start →
      exec .count s = .next { s with
        hist := Vector.replicate 256 0#32, total := 0#32, seq := .count .pop }) ∧
    (s.seq = .count .pop → s.inFifo = [] → exec .count s = .next s) ∧
    (∀ b rest, s.seq = .count .pop → s.inFifo = .byte b :: rest →
      exec .count s = .next { s with inFifo := rest, seq := .count (.tally b) }) ∧
    (∀ rest, s.seq = .count .pop → s.inFifo = .eos :: rest →
      exec .count s = .next { s with inFifo := rest, seq := .count .done }) ∧
    (s.seq = .count .done →
      exec .count s = .next { s with
        phase := .counted
        busy := false
        intStatus := s.intStatus ||| 1#2
        seq := .idle })

/-- R160, R161: a whole COUNT, with its stream in the input FIFO: HIST[b] is the number of times b occurs,
TOTAL and PROGRESS are the number of bytes, the tokens after the first EOS are left, PHASE is COUNTED. -/
def Obligations.CountRunCountsStream : Prop :=
  ∀ (s : State) (bs : List Byte) (rest : List Token),
    s.busy = true → s.seq = .count .start → s.progress = 0#32 →
    s.inFifo = bs.map Token.byte ++ .eos :: rest → bs.length < 2 ^ 32 →
    ∃ (n : Nat) (t : State), engineRun n s = .next t ∧
      (∀ b : Byte, (tabGet t.hist b).toNat = bs.count b) ∧
      t.total.toNat = bs.length ∧ t.total.toNat = histSum t.hist ∧ t.progress = t.total ∧
      t.inFifo = rest ∧ t.phase = .counted ∧ t.busy = false ∧ t.seq = .idle ∧
      t.fault = s.fault ∧ t.intStatus = s.intStatus ||| 1#2

/-- R160: what COUNT leaves unchanged: the code table, the decoder table, PAYLOAD_COUNT, the bit adapters, the
output FIFO, the node store, ACC. That the node store,
QUEUE and NEXT_SEQ stay is the model's choice (log entry 2): R47 leaves them unspecified outside BUILD. -/
def Obligations.CountFrame : Prop :=
  ∀ s t : State, exec .count s = .next t →
    CommandFrame .count .counted s t ∧ t.outFifo = s.outFifo ∧ SameCodes s t ∧ SameDtab s t ∧
    t.payloadCount = s.payloadCount ∧ SameWriter s t ∧ SameReader s t ∧ SameTree s t ∧ SameAcc s t

/-! ## BUILD -/

/-- R170, R176: no symbol, or one symbol, in HIST: the table holds the single codeword (1, 0), for 0x00 or
for that symbol, and BUILD completes. -/
def Obligations.BuildDegenerateInputs : Prop :=
  ∀ (s : State) (b : Byte), s.busy = true → s.seq = .build .start →
    (((∀ c : Byte, tabGet s.hist c = 0#32) ∧ b = 0#8) ∨
      (∀ c : Byte, tabGet s.hist c ≠ 0#32 ↔ c = b)) →
    exec .build s = .next { s with
      codeLen := tabSet (Vector.replicate 256 0#5) b 1#5
      codeVal := Vector.replicate 256 0#31
      numEntries := 1#9
      phase := .built
      busy := false
      intStatus := s.intStatus ||| 1#2
      seq := .idle }

/-- R170, R172: with two symbols or more, BUILD clears the code table and makes one leaf for each symbol with
a nonzero count, in ascending symbol order: node i has seq i, weight HIST, and the i-th such symbol. -/
def Obligations.BuildMakesLeaves : Prop :=
  ∀ (s : State) (ss : List Byte), s.busy = true → s.seq = .build .start →
    ss.Pairwise (fun a b => a.toNat < b.toNat) → (∀ b : Byte, b ∈ ss ↔ tabGet s.hist b ≠ 0#32) →
    2 ≤ ss.length →
    ∃ t : State, exec .build s = .next t ∧ t.seq = .build .merge ∧ t.busy = true ∧
      t.codeLen = Vector.replicate 256 0#5 ∧ t.codeVal = Vector.replicate 256 0#31 ∧
      t.numEntries = 0#9 ∧ t.progress = s.progress ∧
      t.queue = (List.range ss.length).map (BitVec.ofNat 9) ∧ t.nextSeq.toNat = ss.length ∧
      ∀ (i : Nat) (b : Byte), ss[i]? = some b →
        (nodeGet t.node (BitVec.ofNat 9 i)).weight = tabGet s.hist b ∧
        (nodeGet t.node (BitVec.ofNat 9 i)).seq = BitVec.ofNat 9 i ∧
        (nodeGet t.node (BitVec.ofNat 9 i)).leaf = true ∧
        (nodeGet t.node (BitVec.ofNat 9 i)).sym = b

/-- R173, R174: while QUEUE holds two nodes or more, one pass of the loop removes the node with the smallest
(weight, seq), then the next smallest, and joins them, the first as right and the second as left child,
under a new node NEXT_SEQ; PROGRESS counts the merge. With at most one node the loop ends. The model's choice
(log entry 2), not R174's: the new node keeps the old sym of NODE[NEXT_SEQ], and QUEUE is a list, to whose end
NEXT_SEQ is added. -/
def Obligations.MergeJoinsTwoLightest : Prop :=
  ∀ s : State, s.busy = true → s.seq = .build .merge →
    (2 ≤ s.queue.length → s.nextSeq.toNat < 511 →
      ∃ r l : NodeIx, r ∈ s.queue ∧ l ∈ s.queue.erase r ∧
        (∀ y ∈ s.queue, ¬ ((nodeGet s.node y).weight < (nodeGet s.node r).weight ∨
          ((nodeGet s.node y).weight = (nodeGet s.node r).weight ∧
            (nodeGet s.node y).seq < (nodeGet s.node r).seq))) ∧
        (∀ y ∈ s.queue.erase r, ¬ ((nodeGet s.node y).weight < (nodeGet s.node l).weight ∨
          ((nodeGet s.node y).weight = (nodeGet s.node l).weight ∧
            (nodeGet s.node y).seq < (nodeGet s.node l).seq))) ∧
        exec .build s = .next { s with
          node := nodeSet s.node s.nextSeq
            { weight := (nodeGet s.node l).weight + (nodeGet s.node r).weight
              seq := s.nextSeq
              leaf := false
              sym := (nodeGet s.node s.nextSeq).sym
              left := l
              right := r }
          queue := (s.queue.erase r).erase l ++ [s.nextSeq]
          nextSeq := s.nextSeq + 1#9
          progress := s.progress + 1#32 }) ∧
    (s.queue.length ≤ 1 → exec .build s = .next { s with seq := .build .flatten })

/-- R170, R175: the leaves under a node: a leaf itself, with no bits; under an inner node, those of its left child
with a bit 0 and those of its right child with a bit 1 before their bits, the first step from the root most
significant. When no leaf under the root is deeper than 31, and no two hold the same symbol, BUILD writes each
leaf's depth and path as its symbol's codeword, leaves every other entry, and completes. The depth bound of the
descent, 511, is the model's (log entry 14). -/
def Obligations.BuildWritesPaths : Prop :=
  (∀ (t : Vector Node 511) (f : Nat) (n : NodeIx), (nodeGet t n).leaf = true → ∀ x : LeafPath,
    x ∈ leafPaths t (f + 1) n ↔ x.sym = (nodeGet t n).sym ∧ x.depth = 0 ∧ x.path = 0) ∧
  (∀ (t : Vector Node 511) (f : Nat) (n : NodeIx), (nodeGet t n).leaf = false → ∀ x : LeafPath,
    x ∈ leafPaths t (f + 1) n ↔
      (∃ y ∈ leafPaths t f (nodeGet t n).left,
        x.sym = y.sym ∧ x.depth = y.depth + 1 ∧ x.path = y.path) ∨
      (∃ y ∈ leafPaths t f (nodeGet t n).right,
        x.sym = y.sym ∧ x.depth = y.depth + 1 ∧ x.path = 2 ^ y.depth + y.path)) ∧
  (∀ (s : State) (root : NodeIx), s.queue = [root] → codePaths s = leafPaths s.node 511 root) ∧
  ∀ s : State, s.busy = true → s.seq = .build .flatten →
    (∀ x ∈ codePaths s, x.depth ≤ 31) → (codePaths s).Pairwise (fun x y => x.sym ≠ y.sym) →
    ∃ t : State, exec .build s = .next t ∧ t.phase = .built ∧ t.busy = false ∧ t.seq = .idle ∧
      t.intStatus = s.intStatus ||| 1#2 ∧ t.fault = s.fault ∧
      t.numEntries.toNat = ((List.range 256).filter
        (fun i => tabGet s.hist (BitVec.ofNat 8 i) != 0#32)).length ∧
      (∀ x ∈ codePaths s, (tabGet t.codeLen x.sym).toNat = x.depth ∧
        (tabGet t.codeVal x.sym).toNat = x.path) ∧
      (∀ b : Byte, (∀ x ∈ codePaths s, x.sym ≠ b) →
        tabGet t.codeLen b = tabGet s.codeLen b ∧ tabGet t.codeVal b = tabGet s.codeVal b)

/-- R178: when some leaf is deeper than 31, BUILD clears the code table and raises CODE_TOO_LONG with the
smallest such symbol. -/
def Obligations.BuildFaultsTooLong : Prop :=
  ∀ (s : State) (b : Byte), s.busy = true → s.seq = .build .flatten →
    (∃ x ∈ codePaths s, x.sym = b ∧ 31 < x.depth) →
    (∀ x ∈ codePaths s, 31 < x.depth → b.toNat ≤ x.sym.toNat) →
    exec .build s = .next { s with
      codeLen := Vector.replicate 256 0#5
      codeVal := Vector.replicate 256 0#31
      numEntries := 0#9
      faultCode := .codeTooLong
      faultInfo := BitVec.ofNat 32 b.toNat
      fault := true
      busy := false
      intStatus := s.intStatus ||| 2#2
      seq := .idle }

/-- R179: whatever the node store holds, the table BUILD's last event leaves is prefix-free. The premise
BuildOk (kept by every step, Obligations.StepKeepsInv) says the table was clear before. -/
def Obligations.BuildTablePrefixFree : Prop :=
  ∀ s t : State, s.busy = true → s.seq = .build .flatten → BuildOk s → exec .build s = .next t →
    PrefixFree t.codeLen t.codeVal

/-- R170, R176, R178, R179, R280: a whole BUILD ends within 258 engine events (R280: k - 1 merges, k at most 256).
Either it completes, with exactly the symbols of HIST in the table (or the dummy 0x00), NUM_ENTRIES their
number, a prefix-free code that is complete (Σ 2^(-L) = 1) for two symbols or more, PROGRESS k - 1; or it
faults CODE_TOO_LONG with the code table clear. -/
def Obligations.BuildRunGivesCompleteCode : Prop :=
  ∀ (s : State) (k : Nat), s.busy = true → s.seq = .build .start → s.progress = 0#32 →
    k = ((List.range 256).filter (fun i => tabGet s.hist (BitVec.ofNat 8 i) != 0#32)).length →
    ∃ (n : Nat) (t : State), n ≤ 258 ∧ engineRun n s = .next t ∧ t.busy = false ∧
      t.progress.toNat = k - 1 ∧ t.hist = s.hist ∧ t.total = s.total ∧
      ((t.phase = .built ∧ t.fault = s.fault ∧ PrefixFree t.codeLen t.codeVal ∧
          (∀ b : Byte, tabGet t.codeLen b ≠ 0#5 ↔ (tabGet s.hist b ≠ 0#32 ∨ (k = 0 ∧ b = 0#8))) ∧
          t.numEntries.toNat = max k 1 ∧
          (2 ≤ k → ((List.range 256).map (fun i =>
            if tabGet t.codeLen (BitVec.ofNat 8 i) = 0#5 then 0
            else 2 ^ (31 - (tabGet t.codeLen (BitVec.ofNat 8 i)).toNat))).sum = 2 ^ 31)) ∨
        (t.phase = s.phase ∧ t.fault = true ∧ t.faultCode = .codeTooLong ∧ 33 ≤ k ∧
          t.codeLen = Vector.replicate 256 0#5 ∧ t.codeVal = Vector.replicate 256 0#31 ∧
          t.numEntries = 0#9))

/-- R180, R47: the table depends only on HIST: two runs of BUILD from states with the same HIST, whatever
else they hold (the node store among it), hold the same code table after as many events, and end together. -/
def Obligations.BuildDependsOnlyOnHist : Prop :=
  ∀ (s1 s2 t1 t2 : State) (n : Nat), s1.busy = true → s2.busy = true →
    s1.seq = .build .start → s2.seq = .build .start → s1.hist = s2.hist →
    engineRun (n + 1) s1 = .next t1 → engineRun (n + 1) s2 = .next t2 →
    t1.codeLen = t2.codeLen ∧ t1.codeVal = t2.codeVal ∧ t1.numEntries = t2.numEntries ∧
      t1.busy = t2.busy ∧ t1.seq = t2.seq

/-- R170: what BUILD leaves unchanged: HIST, TOTAL, PAYLOAD_COUNT, the decoder table, both FIFOs, the bit
adapters, ACC. -/
def Obligations.BuildFrame : Prop :=
  ∀ s t : State, exec .build s = .next t →
    CommandFrame .build .built s t ∧ SameHist s t ∧ t.payloadCount = s.payloadCount ∧ SameDtab s t ∧
    t.inFifo = s.inFifo ∧ t.outFifo = s.outFifo ∧ SameWriter s t ∧ SameReader s t ∧ SameAcc s t

/-! ## WRITE_HEADER and the bit writer -/

/-- R141, R142: one bit step of BitWrite(v, n), in WRITE_HEADER and in ENCODE: the bit v[n] goes to the low end
of BW_BUF; the eighth bit pushes the byte, once the output FIFO has room, and until then the engine waits. -/
def Obligations.BitWriteStep : Prop :=
  ∀ (s : State) (i : Instr) (v : Word) (n : Nat) (q : Seq), s.busy = true →
    ((i = .writeHeader ∧ ∃ f, s.seq = .writeHeader (.bits f (n + 1)) ∧ v = fieldValue f s ∧
        q = .writeHeader (.bits f n)) ∨
      (i = .encode ∧ s.seq = .encode (.write v (n + 1)) ∧ q = .encode (.write v n))) →
    (s.bwCnt ≠ 7#3 →
      exec i s = .next { s with
        bwBuf := BitVec.ofNat 8 (2 * s.bwBuf.toNat + (v.getLsbD n).toNat)
        bwCnt := s.bwCnt + 1#3
        seq := q }) ∧
    (s.bwCnt = 7#3 → s.outFifo.length < s.params.outDepth.toNat →
      exec i s = .next { s with
        outFifo := s.outFifo ++ [BitVec.ofNat 8 (2 * s.bwBuf.toNat + (v.getLsbD n).toNat)]
        bwBuf := 0#8
        bwCnt := 0#3
        seq := q }) ∧
    (s.bwCnt = 7#3 → s.params.outDepth.toNat ≤ s.outFifo.length → exec i s = .next s)

/-- R190, R191, R192, R193: the order in which WRITE_HEADER writes its fields, and the value and width of each:
the magic bytes, NUM_ENTRIES mod 256, for each symbol with a codeword the symbol, its length, its value, with
PROGRESS + 1 after the entry; symbols without a codeword are passed over; then PAYLOAD_COUNT = TOTAL in 32 bits;
then completion to HEADER_WRITTEN, with no flush. -/
def Obligations.WriteHeaderFieldOrder : Prop :=
  ∀ s : State, s.busy = true →
    (s.seq = .writeHeader .start →
      exec .writeHeader s = .next { s with
        bwBuf := 0#8, bwCnt := 0#3, seq := .writeHeader (.bits (.magic 0) 8) }) ∧
    (∀ i, i < 7 → s.seq = .writeHeader (.bits (.magic i) 0) →
      exec .writeHeader s = .next { s with seq := .writeHeader (.bits (.magic (i + 1)) 8) }) ∧
    (s.seq = .writeHeader (.bits (.magic 7) 0) →
      exec .writeHeader s = .next { s with seq := .writeHeader (.bits .numEntries 8) }) ∧
    (s.seq = .writeHeader (.bits .numEntries 0) →
      exec .writeHeader s = .next { s with seq := .writeHeader (.scan 0) }) ∧
    (∀ b : Byte, s.seq = .writeHeader (.scan b.toNat) → tabGet s.codeLen b = 0#5 →
      exec .writeHeader s = .next { s with seq := .writeHeader (.scan (b.toNat + 1)) }) ∧
    (∀ b : Byte, s.seq = .writeHeader (.scan b.toNat) → tabGet s.codeLen b ≠ 0#5 →
      exec .writeHeader s = .next { s with seq := .writeHeader (.bits (.sym b) 8) }) ∧
    (∀ b : Byte, s.seq = .writeHeader (.bits (.sym b) 0) →
      exec .writeHeader s = .next { s with seq := .writeHeader (.bits (.len b) 5) }) ∧
    (∀ b : Byte, s.seq = .writeHeader (.bits (.len b) 0) →
      exec .writeHeader s = .next { s with
        seq := .writeHeader (.bits (.val b) (tabGet s.codeLen b).toNat) }) ∧
    (∀ b : Byte, s.seq = .writeHeader (.bits (.val b) 0) →
      exec .writeHeader s = .next { s with
        progress := s.progress + 1#32, seq := .writeHeader (.scan (b.toNat + 1)) }) ∧
    (s.seq = .writeHeader (.scan 256) →
      exec .writeHeader s = .next { s with
        payloadCount := s.total, seq := .writeHeader (.bits .payload 32) }) ∧
    (s.seq = .writeHeader (.bits .payload 0) →
      exec .writeHeader s = .next { s with
        phase := .headerWritten
        busy := false
        intStatus := s.intStatus ||| 1#2
        seq := .idle }) ∧
    (∀ i, i < 8 → (fieldValue (.magic i) s).toNat =
      ([0x48, 0x55, 0x46, 0x46, 0x4D, 0x41, 0x4E, 0x31] : List Nat).getD i 0) ∧
    (fieldValue .numEntries s).toNat = s.numEntries.toNat % 256 ∧
    (∀ b : Byte, (fieldValue (.sym b) s).toNat = b.toNat ∧
      (fieldValue (.len b) s).toNat = (tabGet s.codeLen b).toNat ∧
      (fieldValue (.val b) s).toNat = (tabGet s.codeVal b).toNat) ∧
    fieldValue .payload s = s.payloadCount

/-- R90, R190, R194: a whole WRITE_HEADER, with room in the output FIFO: the bytes pushed are the whole bytes of
the header of R90 for the code table and TOTAL, the bits that do not fill a byte stay held, PAYLOAD_COUNT is
TOTAL, PROGRESS counts the entries, PHASE is HEADER_WRITTEN. -/
def Obligations.WriteHeaderRunWritesHeader : Prop :=
  ∀ (s : State) (es : List (Byte × BitVec 5 × BitVec 31)) (h : List Bool),
    s.busy = true → s.seq = .writeHeader .start → s.progress = 0#32 →
    es = tableEntries s.codeLen s.codeVal → s.numEntries.toNat = es.length →
    h = headerBits es s.total →
    s.outFifo.length + h.length / 8 ≤ s.params.outDepth.toNat →
    ∃ (n : Nat) (t : State), engineRun n s = .next t ∧ t.busy = false ∧ t.phase = .headerWritten ∧
      t.outFifo = s.outFifo ++ wholeBytes h ∧
      heldBits t.bwBuf t.bwCnt = h.drop (8 * (h.length / 8)) ∧
      t.payloadCount = s.total ∧ t.progress.toNat = es.length ∧
      SameHist s t ∧ SameCodes s t ∧ t.fault = s.fault

/-- R190: what WRITE_HEADER leaves unchanged: HIST, TOTAL, the code table, the decoder table, the input FIFO, the
bit reader, the node store, ACC. That the node store,
QUEUE and NEXT_SEQ stay is the model's choice (log entry 2): R47 leaves them unspecified outside BUILD. -/
def Obligations.WriteHeaderFrame : Prop :=
  ∀ s t : State, exec .writeHeader s = .next t →
    CommandFrame .writeHeader .headerWritten s t ∧ SameHist s t ∧ SameCodes s t ∧ SameDtab s t ∧
    t.inFifo = s.inFifo ∧ SameReader s t ∧ SameTree s t ∧ SameAcc s t ∧
    (t.payloadCount = s.payloadCount ∨ t.payloadCount = s.total)

/-! ## ENCODE -/

/-- R210, R212, R213, R233: ENCODE's checks. A byte when PROGRESS = PAYLOAD_COUNT is COUNT_MISMATCH, whether or not
it has a codeword; otherwise a byte without a codeword is SYMBOL_NOT_IN_TABLE; otherwise its codeword is written.
EOS when PROGRESS differs from PAYLOAD_COUNT is COUNT_MISMATCH; otherwise the writer is flushed. -/
def Obligations.EncodeChecks : Prop :=
  ∀ (s : State) (b : Byte), s.busy = true →
    (((s.seq = .encode (.sym b) ∧ s.progress = s.payloadCount) ∨
        (s.seq = .encode .eos ∧ s.progress ≠ s.payloadCount)) →
      exec .encode s = .next { s with
        faultCode := .countMismatch
        faultInfo := s.progress
        fault := true
        busy := false
        intStatus := s.intStatus ||| 2#2
        seq := .idle }) ∧
    (s.seq = .encode (.sym b) → s.progress ≠ s.payloadCount → tabGet s.codeLen b = 0#5 →
      exec .encode s = .next { s with
        faultCode := .symbolNotInTable
        faultInfo := BitVec.ofNat 32 b.toNat
        fault := true
        busy := false
        intStatus := s.intStatus ||| 2#2
        seq := .idle }) ∧
    (s.seq = .encode (.sym b) → s.progress ≠ s.payloadCount → tabGet s.codeLen b ≠ 0#5 →
      exec .encode s = .next { s with
        seq := .encode (.write (BitVec.ofNat 32 (tabGet s.codeVal b).toNat)
          (tabGet s.codeLen b).toNat) }) ∧
    (s.seq = .encode .eos → s.progress = s.payloadCount →
      exec .encode s = .next { s with seq := .encode .flush })

/-- R140, R144, R210: ENCODE takes the oldest token or waits; after a codeword PROGRESS counts the byte; at its end
held bits are padded with zero bits and pushed, once there is room, and with none held it completes to BUILT. -/
def Obligations.EncodeTakesAndFlushes : Prop :=
  ∀ s : State, s.busy = true →
    (s.seq = .encode .pop → s.inFifo = [] → exec .encode s = .next s) ∧
    (∀ b rest, s.seq = .encode .pop → s.inFifo = .byte b :: rest →
      exec .encode s = .next { s with inFifo := rest, seq := .encode (.sym b) }) ∧
    (∀ rest, s.seq = .encode .pop → s.inFifo = .eos :: rest →
      exec .encode s = .next { s with inFifo := rest, seq := .encode .eos }) ∧
    (∀ v, s.seq = .encode (.write v 0) →
      exec .encode s = .next { s with progress := s.progress + 1#32, seq := .encode .pop }) ∧
    (s.seq = .encode .flush → s.bwCnt ≠ 0#3 → s.outFifo.length < s.params.outDepth.toNat →
      exec .encode s = .next { s with
        outFifo := s.outFifo ++ [BitVec.ofNat 8 (s.bwBuf.toNat * 2 ^ (8 - s.bwCnt.toNat))]
        bwBuf := 0#8
        bwCnt := 0#3 }) ∧
    (s.seq = .encode .flush → s.bwCnt ≠ 0#3 → s.params.outDepth.toNat ≤ s.outFifo.length →
      exec .encode s = .next s) ∧
    (s.seq = .encode .flush → s.bwCnt = 0#3 →
      exec .encode s = .next { s with
        phase := .built
        busy := false
        intStatus := s.intStatus ||| 1#2
        seq := .idle })

/-- R97, R98, R210, R211: a whole ENCODE, with its stream in the input FIFO, a codeword for every byte, as many
bytes as PAYLOAD_COUNT, and room in the output FIFO: the bytes pushed are the bits held before, the codewords in
order with nothing between, and zero bits to a whole byte; PHASE is BUILT. -/
def Obligations.EncodeRunWritesPayload : Prop :=
  ∀ (s : State) (bs : List Byte) (rest : List Token) (l : List Bool),
    s.busy = true → s.seq = .encode .pop → s.progress = 0#32 →
    s.inFifo = bs.map Token.byte ++ .eos :: rest → s.payloadCount.toNat = bs.length →
    (∀ b ∈ bs, tabGet s.codeLen b ≠ 0#5) →
    l = heldBits s.bwBuf s.bwCnt ++ payloadBits s.codeLen s.codeVal bs →
    s.outFifo.length + (l.length + 7) / 8 ≤ s.params.outDepth.toNat →
    ∃ (n : Nat) (t : State), engineRun n s = .next t ∧ t.busy = false ∧ t.phase = .built ∧
      t.outFifo = s.outFifo ++ packed l ∧ t.bwCnt = 0#3 ∧ t.inFifo = rest ∧
      t.progress = s.payloadCount ∧ SameCodes s t ∧ t.fault = s.fault

/-- R210: what ENCODE leaves unchanged: HIST, TOTAL, the code table, the decoder table, PAYLOAD_COUNT, the bit
reader, the node store, ACC. That the node store,
QUEUE and NEXT_SEQ stay is the model's choice (log entry 2): R47 leaves them unspecified outside BUILD. -/
def Obligations.EncodeFrame : Prop :=
  ∀ s t : State, exec .encode s = .next t →
    CommandFrame .encode .built s t ∧ SameHist s t ∧ SameCodes s t ∧ SameDtab s t ∧
    t.payloadCount = s.payloadCount ∧ SameReader s t ∧ SameTree s t ∧ SameAcc s t

/-! ## READ_HEADER and the bit reader -/

/-- R140, R145: one bit step of BitRead, in READ_HEADER and in DECODE: the next unread bit of BR_BUF is taken; when
none is held a byte is popped first, or EOS, after which UNDERFLOW is raised, or the engine waits. READ_HEADER
shifts the bit into its accumulator, DECODE into ACC, with ACC_LEN + 1. -/
def Obligations.BitReadStep : Prop :=
  (∀ (s : State) (f : RField) (n : Nat) (a : Word), s.busy = true →
    s.seq = .readHeader (.bits f (n + 1) a) →
    (s.brCnt ≠ 0#4 →
      exec .readHeader s = .next { s with
        brCnt := s.brCnt - 1#4
        seq := .readHeader (.bits f n
          (BitVec.ofNat 32 (2 * a.toNat + (s.brBuf.getLsbD (s.brCnt.toNat - 1)).toNat))) }) ∧
    (∀ b rest, s.brCnt = 0#4 → s.inFifo = .byte b :: rest →
      exec .readHeader s = .next { s with
        inFifo := rest
        brBuf := b
        brCnt := 7#4
        seq := .readHeader (.bits f n (BitVec.ofNat 32 (2 * a.toNat + (b.getLsbD 7).toNat))) }) ∧
    (∀ rest, s.brCnt = 0#4 → s.inFifo = .eos :: rest →
      exec .readHeader s = .next { s with inFifo := rest, seq := .readHeader .underflow }) ∧
    (s.brCnt = 0#4 → s.inFifo = [] → exec .readHeader s = .next s)) ∧
  (∀ s : State, s.busy = true → s.seq = .decode .bit →
    (s.brCnt ≠ 0#4 →
      exec .decode s = .next { s with
        brCnt := s.brCnt - 1#4
        acc := BitVec.ofNat 31 (2 * s.acc.toNat + (s.brBuf.getLsbD (s.brCnt.toNat - 1)).toNat)
        accLen := s.accLen + 1#5
        seq := .decode .look }) ∧
    (∀ b rest, s.brCnt = 0#4 → s.inFifo = .byte b :: rest →
      exec .decode s = .next { s with
        inFifo := rest
        brBuf := b
        brCnt := 7#4
        acc := BitVec.ofNat 31 (2 * s.acc.toNat + (b.getLsbD 7).toNat)
        accLen := s.accLen + 1#5
        seq := .decode .look }) ∧
    (∀ rest, s.brCnt = 0#4 → s.inFifo = .eos :: rest →
      exec .decode s = .next { s with inFifo := rest, seq := .decode .underflow }) ∧
    (s.brCnt = 0#4 → s.inFifo = [] → exec .decode s = .next s))

/-- R145, R231, R236: after EOS where a byte is needed, UNDERFLOW is raised with FAULT_INFO = PROGRESS, in READ_HEADER
and in DECODE. -/
def Obligations.UnderflowFaults : Prop :=
  ∀ (s : State) (i : Instr), s.busy = true →
    ((i = .readHeader ∧ s.seq = .readHeader .underflow) ∨ (i = .decode ∧ s.seq = .decode .underflow)) →
    exec i s = .next { s with
      faultCode := .underflow
      faultInfo := s.progress
      fault := true
      busy := false
      intStatus := s.intStatus ||| 2#2
      seq := .idle }

/-- R195, R196: READ_HEADER starts with an empty bit reader and decoder table; it reads eight magic bytes before it
compares any; the least index that differs is BAD_MAGIC's FAULT_INFO; if none differs, num_entries is read. -/
def Obligations.ReadHeaderMagicCheck : Prop :=
  ∀ (s : State) (m : List Byte) (v : Word), s.busy = true →
    (s.seq = .readHeader .start →
      exec .readHeader s = .next { s with
        brBuf := 0#8
        brCnt := 0#4
        dtab := Vector.replicate 256 { valid := false, sym := 0#8, len := 0#5, val := 0#31 }
        dnum := 0#9
        payloadCount := 0#32
        seq := .readHeader (.bits (.magic []) 8 0#32) }) ∧
    (s.seq = .readHeader (.bits (.magic m) 0 v) → m.length < 7 →
      exec .readHeader s = .next { s with
        seq := .readHeader (.bits (.magic (m ++ [BitVec.ofNat 8 v.toNat])) 8 0#32) }) ∧
    (s.seq = .readHeader (.bits (.magic m) 0 v) →
      m ++ [BitVec.ofNat 8 v.toNat] = [0x48#8, 0x55#8, 0x46#8, 0x46#8, 0x4D#8, 0x41#8, 0x4E#8, 0x31#8] →
      exec .readHeader s = .next { s with seq := .readHeader (.bits .numEntries 8 0#32) }) ∧
    (∀ k, s.seq = .readHeader (.bits (.magic m) 0 v) → m.length = 7 → k < 8 →
      (m ++ [BitVec.ofNat 8 v.toNat])[k]? ≠
        [0x48#8, 0x55#8, 0x46#8, 0x46#8, 0x4D#8, 0x41#8, 0x4E#8, 0x31#8][k]? →
      (∀ j, j < k → (m ++ [BitVec.ofNat 8 v.toNat])[j]? =
        [0x48#8, 0x55#8, 0x46#8, 0x46#8, 0x4D#8, 0x41#8, 0x4E#8, 0x31#8][j]?) →
      exec .readHeader s = .next { s with
        faultCode := .badMagic
        faultInfo := BitVec.ofNat 32 k
        fault := true
        busy := false
        intStatus := s.intStatus ||| 2#2
        seq := .idle })

/-- R197, R198, R231: a length field of 0 raises BAD_LENGTH with the entry index; a codeword equal in length and
value to an earlier entry's raises DUPLICATE_CODE with the least such entry j and the index e. -/
def Obligations.ReadHeaderEntryFaults : Prop :=
  ∀ (s : State) (e : Byte) (n : Nat) (sym : Byte) (v : Word), s.busy = true →
    (s.seq = .readHeader (.bits (.len e n sym) 0 v) → v.toNat % 32 = 0 →
      exec .readHeader s = .next { s with
        faultCode := .badLength
        faultInfo := BitVec.ofNat 32 e.toNat
        fault := true
        busy := false
        intStatus := s.intStatus ||| 2#2
        seq := .idle }) ∧
    (∀ (l : BitVec 5) (j : Byte), s.seq = .readHeader (.bits (.val e n sym l) 0 v) → j.toNat < e.toNat →
      (tabGet s.dtab j).len = l → (tabGet s.dtab j).val = BitVec.ofNat 31 v.toNat →
      (∀ c : Byte, c.toNat < j.toNat →
        ¬ ((tabGet s.dtab c).len = l ∧ (tabGet s.dtab c).val = BitVec.ofNat 31 v.toNat)) →
      exec .readHeader s = .next { s with
        faultCode := .duplicateCode
        faultInfo := BitVec.ofNat 32 (j.toNat * 65536 + e.toNat)
        fault := true
        busy := false
        intStatus := s.intStatus ||| 2#2
        seq := .idle })

/-- R93, R195: the other points of READ_HEADER: num_entries 0 means 256; an entry's symbol, then its length, then as
many bits of codeword; a codeword no earlier entry has is stored, with DNUM = PROGRESS = e + 1, and the next entry or
the payload count follows; the payload count completes READ_HEADER to HEADER_READ. -/
def Obligations.ReadHeaderStoresEntries : Prop :=
  ∀ (s : State) (v : Word), s.busy = true →
    (s.seq = .readHeader (.bits .numEntries 0 v) →
      exec .readHeader s = .next { s with
        seq := .readHeader (.bits (.sym 0#8 (if v.toNat % 256 = 0 then 256 else v.toNat % 256)) 8 0#32) }) ∧
    (∀ (e : Byte) (n : Nat), s.seq = .readHeader (.bits (.sym e n) 0 v) →
      exec .readHeader s = .next { s with
        seq := .readHeader (.bits (.len e n (BitVec.ofNat 8 v.toNat)) 5 0#32) }) ∧
    (∀ (e : Byte) (n : Nat) (sym : Byte), s.seq = .readHeader (.bits (.len e n sym) 0 v) →
      v.toNat % 32 ≠ 0 →
      exec .readHeader s = .next { s with
        seq := .readHeader (.bits (.val e n sym (BitVec.ofNat 5 v.toNat)) (v.toNat % 32) 0#32) }) ∧
    (∀ (e : Byte) (n : Nat) (sym : Byte) (l : BitVec 5),
      s.seq = .readHeader (.bits (.val e n sym l) 0 v) →
      (∀ c : Byte, c.toNat < e.toNat →
        ¬ ((tabGet s.dtab c).len = l ∧ (tabGet s.dtab c).val = BitVec.ofNat 31 v.toNat)) →
      exec .readHeader s = .next { s with
        dtab := tabSet s.dtab e { valid := true, sym := sym, len := l, val := BitVec.ofNat 31 v.toNat }
        dnum := BitVec.ofNat 9 (e.toNat + 1)
        progress := BitVec.ofNat 32 (e.toNat + 1)
        seq := if e.toNat + 1 < n then .readHeader (.bits (.sym (e + 1#8) n) 8 0#32)
          else .readHeader (.bits .payload 32 0#32) }) ∧
    (s.seq = .readHeader (.bits .payload 0 v) →
      exec .readHeader s = .next { s with
        payloadCount := v
        phase := .headerRead
        busy := false
        intStatus := s.intStatus ||| 1#2
        seq := .idle })

/-- R90, R148, R195, R200: a whole READ_HEADER, on the bytes of any header of 1 to 256 entries in any order, with
lengths 1 to 31 and distinct codewords, followed by fewer than 8 more bits: the decoder table holds the entries in
their order, DNUM their number, PAYLOAD_COUNT the count; exactly the bytes that hold the header are popped and the
bits after it are unread; PHASE is HEADER_READ. -/
def Obligations.ReadHeaderRunReadsHeader : Prop :=
  ∀ (s : State) (es : List (Byte × BitVec 5 × BitVec 31)) (count : Word) (bs : List Byte)
    (more : List Bool) (rest : List Token),
    s.busy = true → s.seq = .readHeader .start → s.progress = 0#32 →
    1 ≤ es.length → es.length ≤ 256 →
    (∀ x ∈ es, x.2.1 ≠ 0#5 ∧ x.2.2.toNat < 2 ^ x.2.1.toNat) → es.Pairwise (fun x y => x.2 ≠ y.2) →
    unpacked bs = headerBits es count ++ more → more.length < 8 →
    s.inFifo = bs.map Token.byte ++ rest →
    ∃ (n : Nat) (t : State), engineRun n s = .next t ∧ t.busy = false ∧ t.phase = .headerRead ∧
      t.dnum.toNat = es.length ∧ t.payloadCount = count ∧ t.progress.toNat = es.length ∧
      (∀ (e : Nat) (x : Byte × BitVec 5 × BitVec 31), es[e]? = some x →
        tabGet t.dtab (BitVec.ofNat 8 e) = { valid := true, sym := x.1, len := x.2.1, val := x.2.2 }) ∧
      t.inFifo = rest ∧ unreadBits t.brBuf t.brCnt = more ∧ t.fault = s.fault

/-- R195: what READ_HEADER leaves unchanged: the code table, HIST, TOTAL, the bit writer, the output FIFO, the node
store, ACC. That the node store,
QUEUE and NEXT_SEQ stay is the model's choice (log entry 2): R47 leaves them unspecified outside BUILD. -/
def Obligations.ReadHeaderFrame : Prop :=
  ∀ s t : State, exec .readHeader s = .next t →
    CommandFrame .readHeader .headerRead s t ∧ SameHist s t ∧ SameCodes s t ∧ SameWriter s t ∧
    t.outFifo = s.outFifo ∧ SameTree s t ∧ SameAcc s t

/-! ## DECODE -/

/-- R220, R221, R222: the lookup after a bit. An entry below DNUM that is valid and equals (ACC_LEN, ACC), no earlier
one doing so, gives the symbol to push; without one, 31 bits raise NO_MATCH and fewer read on. -/
def Obligations.DecodeLooksUp : Prop :=
  ∀ s : State, s.busy = true → s.seq = .decode .look → s.dnum.toNat ≤ 256 →
    (∀ e : Byte, e.toNat < s.dnum.toNat → (tabGet s.dtab e).valid = true →
      (tabGet s.dtab e).len = s.accLen → (tabGet s.dtab e).val = s.acc →
      (∀ c : Byte, c.toNat < e.toNat → ¬ ((tabGet s.dtab c).valid = true ∧
        (tabGet s.dtab c).len = s.accLen ∧ (tabGet s.dtab c).val = s.acc)) →
      exec .decode s = .next { s with seq := .decode (.push (tabGet s.dtab e).sym) }) ∧
    ((∀ c : Byte, c.toNat < s.dnum.toNat → ¬ ((tabGet s.dtab c).valid = true ∧
        (tabGet s.dtab c).len = s.accLen ∧ (tabGet s.dtab c).val = s.acc)) →
      (s.accLen = 31#5 →
        exec .decode s = .next { s with
          faultCode := .noMatch
          faultInfo := s.progress
          fault := true
          busy := false
          intStatus := s.intStatus ||| 2#2
          seq := .idle }) ∧
      (s.accLen ≠ 31#5 → exec .decode s = .next { s with seq := .decode .bit }))

/-- R115, R141, R220, R223: DECODE pushes the symbol once there is room, and waits until then; PROGRESS counts it; while
PROGRESS < PAYLOAD_COUNT a new symbol starts with an empty accumulator; then DECODE completes to IDLE, with the bit
reader and the input FIFO as they are. -/
def Obligations.DecodePushesAndEnds : Prop :=
  ∀ s : State, s.busy = true →
    (∀ b, s.seq = .decode (.push b) → s.outFifo.length < s.params.outDepth.toNat →
      exec .decode s = .next { s with outFifo := s.outFifo ++ [b], seq := .decode .bump }) ∧
    (∀ b, s.seq = .decode (.push b) → s.params.outDepth.toNat ≤ s.outFifo.length →
      exec .decode s = .next s) ∧
    (s.seq = .decode .bump →
      exec .decode s = .next { s with progress := s.progress + 1#32, seq := .decode .next }) ∧
    (s.seq = .decode .next → s.progress.toNat < s.payloadCount.toNat →
      exec .decode s = .next { s with acc := 0#31, accLen := 0#5, seq := .decode .bit }) ∧
    (s.seq = .decode .next → s.payloadCount.toNat ≤ s.progress.toNat →
      exec .decode s = .next { s with
        phase := .idle
        busy := false
        intStatus := s.intStatus ||| 1#2
        seq := .idle })

/-- R220, R221, R223, R225: a whole DECODE with a prefix-free table, of PAYLOAD_COUNT codewords that start at the unread
bits of the reader, with room in the output FIFO: the symbols come out in order, exactly the bytes that hold the
codewords are popped, the bits after them stay unread, PHASE is IDLE. -/
def Obligations.DecodeRunRecoversSymbols : Prop :=
  ∀ (s : State) (es xs : List (Byte × BitVec 5 × BitVec 31)) (bs : List Byte) (more : List Bool)
    (rest : List Token),
    s.busy = true → s.seq = .decode .next → s.progress = 0#32 →
    s.dnum.toNat = es.length → es.length ≤ 256 →
    (∀ (e : Nat) (x : Byte × BitVec 5 × BitVec 31), es[e]? = some x →
      tabGet s.dtab (BitVec.ofNat 8 e) = { valid := true, sym := x.1, len := x.2.1, val := x.2.2 }) →
    (∀ x ∈ es, x.2.1 ≠ 0#5 ∧ x.2.2.toNat < 2 ^ x.2.1.toNat) → EntriesPrefixFree es →
    (∀ x ∈ xs, x ∈ es) → s.payloadCount.toNat = xs.length →
    unreadBits s.brBuf s.brCnt ++ unpacked bs =
      xs.flatMap (fun x => codewordBits x.2.1 x.2.2) ++ more →
    (bs = [] ∨ more.length < 8) → s.inFifo = bs.map Token.byte ++ rest →
    s.outFifo.length + xs.length ≤ s.params.outDepth.toNat →
    ∃ (n : Nat) (t : State), engineRun n s = .next t ∧ t.busy = false ∧ t.phase = .idle ∧
      t.outFifo = s.outFifo ++ xs.map (fun x => x.1) ∧ t.progress = s.payloadCount ∧ t.inFifo = rest ∧
      unreadBits t.brBuf t.brCnt = more ∧ SameDtab s t ∧ t.fault = s.fault

/-- R220: what DECODE leaves unchanged: the decoder table, PAYLOAD_COUNT, HIST, TOTAL, the code table, the bit writer,
the node store. That the node store,
QUEUE and NEXT_SEQ stay is the model's choice (log entry 2): R47 leaves them unspecified outside BUILD. -/
def Obligations.DecodeFrame : Prop :=
  ∀ s t : State, exec .decode s = .next t →
    CommandFrame .decode .idle s t ∧ SameHist s t ∧ SameCodes s t ∧ SameDtab s t ∧
    t.payloadCount = s.payloadCount ∧ SameWriter s t ∧ SameTree s t

/-! ## Laws of the bit adapters -/

/-- R147: any sequence of BitWrites of 1 to 32 bits from an empty writer, flushed, read back with the same widths in
the same order, gives the low n bits of each value, whatever the byte alignment (the model's form of R147, log
entry 12). -/
def Obligations.BitReadInvertsBitWrite : Prop :=
  ∀ xs : List (Word × Nat), (∀ x ∈ xs, 1 ≤ x.2 ∧ x.2 ≤ 32) →
    ∃ r, readAll (xs.map (fun x => x.2)) 0#8 0#4 (writeAndFlush xs) =
      some (xs.map (fun x => BitVec.ofNat 32 (x.1.toNat % 2 ^ x.2)), r)

/-- R148, R149: reading is lazy and writing is eager: from BR_CNT = 0, after B bits, ⌈B / 8⌉ bytes have been
taken and (8 - B mod 8) mod 8 bits are unread; from BW_CNT = 0, ⌊B / 8⌋ bytes have been pushed and B mod 8
bits are held; whatever BR_BUF and BW_BUF hold. -/
def Obligations.AdapterCounts : Prop :=
  (∀ (ns : List Nat) (bs : List Byte) (b0 : Byte), ns.sum ≤ 8 * bs.length →
    ∃ vs buf cnt, readAll ns b0 0#4 bs = some (vs, buf, cnt, bs.drop ((ns.sum + 7) / 8)) ∧
      cnt.toNat = (8 - ns.sum % 8) % 8) ∧
  (∀ (xs : List (Word × Nat)) (b0 : Byte),
    (writeAll xs b0 0#3).1.length = (xs.map (fun x => x.2)).sum / 8 ∧
    (writeAll xs b0 0#3).2.2.toNat = (xs.map (fun x => x.2)).sum % 8)

/-! ## Reset -/

/-- R260: what every register reads after a reset, and every internal element's reset value, for every legal choice of
the parameters. The last line is the model's choice: State.reset has HUFF_BASE 0 and depths 64 (log entry 1). -/
def Obligations.ResetValues : Prop :=
  ∀ p : Params, p.wellFormed = true →
    regValue .id (State.powerOn p) = 0x48554646#32 ∧
    (regValue .config (State.powerOn p)).toNat =
      p.inDepth.toNat + 4096 * p.outDepth.toNat + 16777216 * 31 ∧
    regValue .fifoStatus (State.powerOn p) = 0x02000000#32 ∧
    (∀ r : Reg, r ≠ .id → r ≠ .config → r ≠ .fifoStatus → regValue r (State.powerOn p) = 0#32) ∧
    irq (State.powerOn p) = false ∧ (State.powerOn p).seq = .idle ∧ (State.powerOn p).phase = .idle ∧
    (State.powerOn p).inFifo = [] ∧ (State.powerOn p).inOvf = false ∧ (State.powerOn p).outFifo = [] ∧
    (∀ b : Byte, tabGet (State.powerOn p).hist b = 0#32 ∧ tabGet (State.powerOn p).codeLen b = 0#5 ∧
      tabGet (State.powerOn p).codeVal b = 0#31 ∧
      tabGet (State.powerOn p).dtab b = { valid := false, sym := 0#8, len := 0#5, val := 0#31 }) ∧
    (State.powerOn p).bwBuf = 0#8 ∧ (State.powerOn p).bwCnt = 0#3 ∧ (State.powerOn p).brBuf = 0#8 ∧
    (State.powerOn p).brCnt = 0#4 ∧ (State.powerOn p).acc = 0#31 ∧ (State.powerOn p).accLen = 0#5 ∧
    State.reset = State.powerOn Params.default ∧ Params.default.wellFormed = true

/-- R25, R129, R261: CTRL.SRST and the platform's reset input do the same, at any time: the HUFF is in its reset
state, whatever it did, and neither pending bit is set; a CTRL write with bit 0 = 0 does nothing. The model's
choice: the reset state has the node store, QUEUE and NEXT_SEQ zero and empty, where R260 gives no value (log
entry 2); the host's program and reads and the model's turns and draws stay (log entries 3 to 5); the reset
input is a line of the host's program (log entry 15). -/
def Obligations.ResetEndsEverything : Prop :=
  ∀ (s : State) (rest : List HostLine) (v : Word),
    (((s.program = .wr .ctrl v :: rest ∧ v.getLsbD 0 = true) ∨ s.program = .platformReset :: rest) →
      hostStep s = .next { State.powerOn s.params with
        program := rest, reads := s.reads, turns := s.turns, draws := s.draws }) ∧
    (s.program = .wr .ctrl v :: rest → v.getLsbD 0 = false →
      hostStep s = .next { s with program := rest })

/-! ## Host accesses -/

/-- R34, R130: an OUT_DATA read takes the oldest byte and returns it with VALID = 1, or returns 0 and changes nothing. -/
def Obligations.OutDataRead : Prop :=
  ∀ (s : State) (rest : List HostLine), s.program = .rd .outData :: rest →
    (∀ b bs, s.outFifo = b :: bs →
      hostStep s = .next { s with
        outFifo := bs, program := rest, reads := s.reads ++ [(0x28, BitVec.ofNat 32 (256 + b.toNat))] }) ∧
    (s.outFifo = [] →
      hostStep s = .next { s with program := rest, reads := s.reads ++ [(0x28, 0#32)] })

/-- R33, R122, R123, R124, R125: a push appends the token or, at a full input FIFO, drops it and sets IN_OVF; IN_FLUSH,
PUSH_EOS and OUT_FLUSH of one FIFO_CTRL write act in that order. -/
def Obligations.StreamRegisterWrites : Prop :=
  ∀ (s : State) (rest : List HostLine) (v : Word),
    (s.program = .wr .inData v :: rest → s.inFifo.length < s.params.inDepth.toNat →
      hostStep s = .next { s with
        program := rest, inFifo := s.inFifo ++ [.byte (BitVec.ofNat 8 v.toNat)] }) ∧
    (s.program = .wr .inData v :: rest → s.params.inDepth.toNat ≤ s.inFifo.length →
      hostStep s = .next { s with program := rest, inOvf := true }) ∧
    (s.program = .wr .fifoCtrl v :: rest → 0 < s.params.inDepth.toNat →
      ∃ t : State, hostStep s = .next t ∧
        (v.getLsbD 1 = true → t.inFifo = (if v.getLsbD 0 then [.eos] else []) ∧ t.inOvf = false) ∧
        (v.getLsbD 1 = false → v.getLsbD 0 = false → t.inFifo = s.inFifo ∧ t.inOvf = s.inOvf) ∧
        (v.getLsbD 1 = false → v.getLsbD 0 = true → s.inFifo.length < s.params.inDepth.toNat →
          t.inFifo = s.inFifo ++ [.eos] ∧ t.inOvf = s.inOvf) ∧
        (v.getLsbD 1 = false → v.getLsbD 0 = true → s.params.inDepth.toNat ≤ s.inFifo.length →
          t.inFifo = s.inFifo ∧ t.inOvf = true) ∧
        t.outFifo = (if v.getLsbD 2 then [] else s.outFifo) ∧
        t = { s with program := rest, inFifo := t.inFifo, inOvf := t.inOvf, outFifo := t.outFifo })

/-- R126, R127, R128, R240: writes of INT_STATUS clear the bits written 1, writes of INT_EN and INDEX store the defined
bits, and IRQ is the disjunction of the enabled pending bits. -/
def Obligations.InterruptAndIndexRegisters : Prop :=
  ∀ (s : State) (rest : List HostLine) (v : Word),
    (s.program = .wr .intStatus v :: rest →
      ∃ x : BitVec 2, hostStep s = .next { s with program := rest, intStatus := x } ∧
        ∀ k, k < 2 → x.getLsbD k = (s.intStatus.getLsbD k && !v.getLsbD k)) ∧
    (s.program = .wr .intEn v :: rest →
      hostStep s = .next { s with program := rest, intEn := BitVec.ofNat 2 v.toNat }) ∧
    (s.program = .wr .index v :: rest →
      hostStep s = .next { s with program := rest, index := BitVec.ofNat 8 v.toNat }) ∧
    (irq s = true ↔ (s.intStatus.getLsbD 0 = true ∧ s.intEn.getLsbD 0 = true) ∨
      (s.intStatus.getLsbD 1 = true ∧ s.intEn.getLsbD 1 = true))

/-- R27, R31, R35, R230: the layout of STATUS and, with the FIFOs within their depths, of FIFO_STATUS; the numbers
of PHASE and of FAULT_CODE; WAIT_IN: a command runs, its next step is an InPop, and the input FIFO is empty;
WAIT_OUT: a command runs, its next step is an OutPush, and the output FIFO is full. -/
def Obligations.StatusLayouts : Prop :=
  (∀ s : State,
    (regValue .status s).toNat = s.busy.toNat + 2 * s.fault.toNat + 4 * s.cmdIgn.toNat +
      16 * (phaseBits s.phase).toNat + 256 * (faultBits s.faultCode).toNat +
      4096 * (waitIn s).toNat + 8192 * (waitOut s).toNat ∧
    (FifoBounds s →
      (regValue .fifoStatus s).toNat = s.inFifo.length + 4096 * s.outFifo.length +
        16777216 * (decide (s.inFifo.length = s.params.inDepth.toNat)).toNat +
        33554432 * (decide (s.outFifo.length = 0)).toNat + 67108864 * s.inOvf.toNat) ∧
    (waitIn s = true ↔ s.busy = true ∧ s.inFifo = [] ∧
      (s.seq = .count .pop ∨ s.seq = .encode .pop ∨
        (s.brCnt = 0#4 ∧ (s.seq = .decode .bit ∨ ∃ f n a, s.seq = .readHeader (.bits f (n + 1) a))))) ∧
    (waitOut s = true ↔ s.busy = true ∧ s.params.outDepth.toNat ≤ s.outFifo.length ∧
      ((s.bwCnt = 7#3 ∧ ((∃ f n, s.seq = .writeHeader (.bits f (n + 1))) ∨
          ∃ v n, s.seq = .encode (.write v (n + 1)))) ∨
        (s.bwCnt ≠ 0#3 ∧ s.seq = .encode .flush) ∨ ∃ b, s.seq = .decode (.push b)))) ∧
  [Phase.idle, .counted, .built, .headerWritten, .headerRead].map (fun p => (phaseBits p).toNat) =
    [0, 1, 2, 3, 4] ∧
  [FaultCode.none, .illegalCmd, .sequence, .countOverflow, .codeTooLong, .symbolNotInTable, .countMismatch,
    .badMagic, .underflow, .badLength, .duplicateCode, .noMatch].map (fun c => (faultBits c).toNat) =
    [0, 1, 2, 3, 4, 5, 6, 7, 8, 9, 10, 11]

/-- R23, R24, R26, R28 to R30, R34, R36 to R43, R54, R120: what each register reads as, STATUS and FIFO_STATUS apart
(Obligations.StatusLayouts): the elements of 10_state.md, the table entries at INDEX, 0 for the write-only registers.
A host read of a register returns that value and changes nothing of the HUFF, but that OUT_DATA's takes the oldest
byte; while BUSY = 1 a read of a count or of a table window returns some value with the reserved bits 0. That
unspecified value is a free value, the model's Config.freeWord, and draws its counter (log entry 5): this says only
what holds of every value. The record of reads is the model's (log entry 3). -/
def Obligations.RegisterReads : Prop :=
  (∀ (s : State) (rest : List HostLine) (r : Reg), s.program = .rd r :: rest →
    (∀ m : Word, s.busy = true →
      (r, m) ∈ [(Reg.total, 0xFFFFFFFF#32), (.numEntries, 0x1FF#32), (.payloadCount, 0xFFFFFFFF#32),
        (.histData, 0xFFFFFFFF#32), (.codeLenData, 0x1F#32), (.codeValData, 0x7FFFFFFF#32),
        (.dtabNum, 0x1FF#32), (.dtabSym, 0x80001FFF#32), (.dtabVal, 0x7FFFFFFF#32)] →
      ∃ v : Word, v &&& ~~~m = 0#32 ∧
        hostStep s = .next { s with
          program := rest, reads := s.reads ++ [(regOffset r, v)], draws := s.draws + 1 }) ∧
    (r ∈ [Reg.id, .config, .ctrl, .cmd, .status, .intEn, .intStatus, .faultInfo, .inData, .fifoCtrl,
        .fifoStatus, .progress, .index] →
      hostStep s = .next { s with
        program := rest, reads := s.reads ++ [(regOffset r, regValue r s)] }) ∧
    (s.busy = false → r ≠ .outData →
      hostStep s = .next { s with
        program := rest, reads := s.reads ++ [(regOffset r, regValue r s)] }) ∧
    (r = .outData →
      hostStep s = .next { s with
        program := rest, reads := s.reads ++ [(regOffset r, regValue r s)], outFifo := s.outFifo.tail })) ∧
  [Reg.id, .config, .ctrl, .cmd, .status, .intEn, .intStatus, .faultInfo, .inData, .fifoCtrl, .outData,
    .fifoStatus, .progress, .total, .numEntries, .payloadCount, .index, .histData, .codeLenData,
    .codeValData, .dtabNum, .dtabSym, .dtabVal].map regOffset = (List.range 23).map (4 * ·) ∧
  (∀ s : State,
    regValue .id s = 0x48554646#32 ∧
    (regValue .config s).toNat = s.params.inDepth.toNat + 4096 * s.params.outDepth.toNat + 16777216 * 31 ∧
    regValue .ctrl s = 0#32 ∧ regValue .inData s = 0#32 ∧ regValue .fifoCtrl s = 0#32 ∧
    regValue .cmd s = s.cmdWord ∧ regValue .faultInfo s = s.faultInfo ∧
    (regValue .intEn s).toNat = s.intEn.toNat ∧ (regValue .intStatus s).toNat = s.intStatus.toNat ∧
    (∀ b bs, s.outFifo = b :: bs → (regValue .outData s).toNat = 256 + b.toNat) ∧
    (s.outFifo = [] → regValue .outData s = 0#32) ∧
    regValue .progress s = s.progress ∧ regValue .total s = s.total ∧
    (regValue .numEntries s).toNat = s.numEntries.toNat ∧ regValue .payloadCount s = s.payloadCount ∧
    (regValue .index s).toNat = s.index.toNat ∧ regValue .histData s = tabGet s.hist s.index ∧
    (regValue .codeLenData s).toNat = (tabGet s.codeLen s.index).toNat ∧
    (regValue .codeValData s).toNat = (tabGet s.codeVal s.index).toNat ∧
    (regValue .dtabNum s).toNat = s.dnum.toNat ∧
    (regValue .dtabSym s).toNat = (tabGet s.dtab s.index).sym.toNat +
      256 * (tabGet s.dtab s.index).len.toNat + 2147483648 * (tabGet s.dtab s.index).valid.toNat ∧
    (regValue .dtabVal s).toNat = (tabGet s.dtab s.index).val.toNat)

/-- R61, R121: a write to a read-only register changes nothing, and at a reserved offset a write is ignored and
a read returns 0. -/
def Obligations.ReservedAndReadOnlyAccesses : Prop :=
  ∀ (s : State) (rest : List HostLine) (v : Word),
    (∀ r : Reg, r ∈ [Reg.id, .config, .status, .faultInfo, .outData, .fifoStatus, .progress, .total,
        .numEntries, .payloadCount, .histData, .codeLenData, .codeValData, .dtabNum, .dtabSym, .dtabVal] →
      s.program = .wr r v :: rest → hostStep s = .next { s with program := rest }) ∧
    (∀ off : Nat, 0x5C ≤ off → off ≤ 0xFC → off % 4 = 0 →
      (s.program = .access
          { master := .host, width := .word, addr := s.params.base + off, op := .write v } :: rest →
        hostStep s = .next { s with program := rest }) ∧
      (s.program = .access
          { master := .host, width := .word, addr := s.params.base + off, op := .read } :: rest →
        hostStep s = .next { s with program := rest, reads := s.reads ++ [(off, 0#32)] }))

/-- R65, R246: a host access that is not 32 bits wide, or not at a multiple of 4, and an access of a second host, are
refused. Two clauses are the model's choice (log entry 6): an access of another master is refused as secondHost at
every address and width, before the window, the width and the alignment are looked at; and an access wider than 32
bits, which R65 does not name, is refused as a narrower one is. -/
def Obligations.UnsupportedAccessesRefused : Prop :=
  ∀ (s : State) (a : BusAccess) (rest : List HostLine), s.program = .access a :: rest →
    (a.master = .other → hostStep s = .refused .secondHost) ∧
    (a.master = .host → s.params.base ≤ a.addr → a.addr < s.params.base + 256 →
      (a.width ≠ .word ∨ (a.addr - s.params.base) % 4 ≠ 0) →
      hostStep s = .refused .unsupportedAccess)

/-- R131: while a command runs, a register write other than of CTRL, IN_DATA and FIFO_CTRL changes at most INT_EN,
INT_STATUS, INDEX and CMD_IGN. -/
def Obligations.RunningCommandUndisturbed : Prop :=
  ∀ (s : State) (r : Reg) (v : Word), s.busy = true → r ≠ .ctrl → r ≠ .inData → r ≠ .fifoCtrl →
    ∃ t : State, writeReg r v s = .next t ∧
      t = { s with intEn := t.intEn, intStatus := t.intStatus, index := t.index, cmdIgn := t.cmdIgn }

/-- R87, R270: a host that runs commands by a stream line keeps the engine from waiting for ever: where the engine
waits in OutPush and the host is at its poll, three steps take the oldest byte off the full output FIFO; where it
waits in InPop and the host has a token left, at most four steps push the next one; where no command runs, the host
issues the next command, or its line ends. The stream line is the model's form of R87's interleaved pushes, pops and
polls (log entry 3). -/
def Obligations.StreamLineServesEngine : Prop :=
  ∀ (s : State) (cmds : List Instr) (ts : List Token) (rest : List HostLine),
    s.params.wellFormed = true → FifoBounds s → s.program = .stream cmds ts .status :: rest →
    (waitOut s = true →
      ∃ (t : State) (b : Byte), Host.Core.run Sys2Proof.core 3 s = .next t ∧ s.outFifo = b :: t.outFifo ∧
        drainedBytes t = drainedBytes s ++ [b] ∧ waitOut t = false ∧ t.seq = s.seq ∧
        t.inFifo = s.inFifo) ∧
    (∀ (x : Token) (ts' : List Token), waitIn s = true → ts = x :: ts' →
      ∃ (n : Nat) (t : State), n ≤ 4 ∧ Host.Core.run Sys2Proof.core n s = .next t ∧ t.inFifo = [x] ∧
        drainedBytes t ++ t.outFifo = drainedBytes s ++ s.outFifo ∧ waitIn t = false ∧ t.seq = s.seq ∧
        t.program = .stream cmds ts' .status :: rest) ∧
    (∀ (i : Instr) (cs : List Instr), s.busy = false → (s.fault = false ∨ i = .clear) → cmds = i :: cs →
      ∃ s1 : State, step s = .next s1 ∧ s1.seq = s.seq ∧
        step s1 = exec i { s1 with program := .stream cs ts .status :: rest }) ∧
    (s.busy = false → cmds = [] → ∃ t : State, step s = .next t ∧ t.program = rest ∧ t.seq = s.seq)

/-! ## Whole-machine rules -/

/-- R21, R35, R44, R45, R46, R48, R142, R198: every step keeps the invariant Inv, in every state, and in a state of Inv no
step ends in the model's own fault nodeStoreFull (log entry 7). -/
def Obligations.StepKeepsInv : Prop :=
  ∀ s : State, Inv s →
    (∀ t : State, step s = .next t → Inv t) ∧ (∀ r : Fault, step s ≠ .fault r)

/-- R260: the invariant holds after a reset, for every legal choice of the parameters, and in State.reset, whose
parameters are the model's choice (log entry 1). -/
def Obligations.ResetMeetsInv : Prop :=
  (∀ p : Params, p.wellFormed = true → Inv (State.powerOn p)) ∧ Inv State.reset

/-- R116, R238, R239: the fault state is left only by the completion of CLEAR or by a reset, and a fault never overwrites
FAULT_CODE or FAULT_INFO. ControlOk is part of Inv. The model's choice: the reset state of the third case has the
node store, QUEUE and NEXT_SEQ zero and empty, where R260 gives no value (log entry 2). -/
def Obligations.FaultLeftOnlyByClearOrReset : Prop :=
  ∀ s t : State, ControlOk s → s.fault = true → step s = .next t →
    (t.fault = true ∧ t.faultCode = s.faultCode ∧ t.faultInfo = s.faultInfo ∧ t.phase = s.phase) ∨
    (s.busy = true ∧ s.seq = .clear ∧ t.fault = false ∧ t.busy = false ∧ t.phase = .idle) ∨
    t = { State.powerOn s.params with
      program := t.program, reads := t.reads, turns := t.turns, draws := t.draws }

/-- R280: in every weakly fair run, a CLEAR or a BUILD that runs ends. Weak fairness is a premise: no step
enforces it (log entry 8). -/
def Obligations.FairRunEndsClearAndBuild : Prop :=
  ∀ (r : Nat → State) (n : Nat), Run r → WeaklyFair r → (r n).busy = true →
    (runningOf (r n).seq = some .clear ∨ runningOf (r n).seq = some .build) →
    ∃ m, n ≤ m ∧ (r m).busy = false
end

