-- ==== Sys2Proof/Laws/State.lean ====
section
/-! SUPPORT. The fields of the state after each named update: one lemma per field per update. -/

namespace Sys2Proof.Machine

open Sys2Proof

/-! ## outPush -/

section

variable (b : Byte) (s : State)

@[simp] theorem outPush_params : (outPush b s).params = s.params := rfl
@[simp] theorem outPush_cmdWord : (outPush b s).cmdWord = s.cmdWord := rfl
@[simp] theorem outPush_busy : (outPush b s).busy = s.busy := rfl
@[simp] theorem outPush_fault : (outPush b s).fault = s.fault := rfl
@[simp] theorem outPush_cmdIgn : (outPush b s).cmdIgn = s.cmdIgn := rfl
@[simp] theorem outPush_phase : (outPush b s).phase = s.phase := rfl
@[simp] theorem outPush_faultCode : (outPush b s).faultCode = s.faultCode := rfl
@[simp] theorem outPush_faultInfo : (outPush b s).faultInfo = s.faultInfo := rfl
@[simp] theorem outPush_intEn : (outPush b s).intEn = s.intEn := rfl
@[simp] theorem outPush_intStatus : (outPush b s).intStatus = s.intStatus := rfl
@[simp] theorem outPush_index : (outPush b s).index = s.index := rfl
@[simp] theorem outPush_progress : (outPush b s).progress = s.progress := rfl
@[simp] theorem outPush_total : (outPush b s).total = s.total := rfl
@[simp] theorem outPush_payloadCount : (outPush b s).payloadCount = s.payloadCount := rfl
@[simp] theorem outPush_hist : (outPush b s).hist = s.hist := rfl
@[simp] theorem outPush_codeLen : (outPush b s).codeLen = s.codeLen := rfl
@[simp] theorem outPush_codeVal : (outPush b s).codeVal = s.codeVal := rfl
@[simp] theorem outPush_numEntries : (outPush b s).numEntries = s.numEntries := rfl
@[simp] theorem outPush_dtab : (outPush b s).dtab = s.dtab := rfl
@[simp] theorem outPush_dnum : (outPush b s).dnum = s.dnum := rfl
@[simp] theorem outPush_bwBuf : (outPush b s).bwBuf = s.bwBuf := rfl
@[simp] theorem outPush_bwCnt : (outPush b s).bwCnt = s.bwCnt := rfl
@[simp] theorem outPush_brBuf : (outPush b s).brBuf = s.brBuf := rfl
@[simp] theorem outPush_brCnt : (outPush b s).brCnt = s.brCnt := rfl
@[simp] theorem outPush_node : (outPush b s).node = s.node := rfl
@[simp] theorem outPush_queue : (outPush b s).queue = s.queue := rfl
@[simp] theorem outPush_nextSeq : (outPush b s).nextSeq = s.nextSeq := rfl
@[simp] theorem outPush_acc : (outPush b s).acc = s.acc := rfl
@[simp] theorem outPush_accLen : (outPush b s).accLen = s.accLen := rfl
@[simp] theorem outPush_seq : (outPush b s).seq = s.seq := rfl
@[simp] theorem outPush_inFifo : (outPush b s).inFifo = s.inFifo := rfl
@[simp] theorem outPush_inOvf : (outPush b s).inOvf = s.inOvf := rfl
@[simp] theorem outPush_outFifo : (outPush b s).outFifo = s.outFifo ++ [b] := rfl
@[simp] theorem outPush_program : (outPush b s).program = s.program := rfl
@[simp] theorem outPush_reads : (outPush b s).reads = s.reads := rfl
@[simp] theorem outPush_turns : (outPush b s).turns = s.turns := rfl
@[simp] theorem outPush_draws : (outPush b s).draws = s.draws := rfl

end

/-! ## writeBit -/

section

variable (b : Bool) (s : State)

@[simp] theorem writeBit_params : (writeBit b s).params = s.params := rfl
@[simp] theorem writeBit_cmdWord : (writeBit b s).cmdWord = s.cmdWord := rfl
@[simp] theorem writeBit_busy : (writeBit b s).busy = s.busy := rfl
@[simp] theorem writeBit_fault : (writeBit b s).fault = s.fault := rfl
@[simp] theorem writeBit_cmdIgn : (writeBit b s).cmdIgn = s.cmdIgn := rfl
@[simp] theorem writeBit_phase : (writeBit b s).phase = s.phase := rfl
@[simp] theorem writeBit_faultCode : (writeBit b s).faultCode = s.faultCode := rfl
@[simp] theorem writeBit_faultInfo : (writeBit b s).faultInfo = s.faultInfo := rfl
@[simp] theorem writeBit_intEn : (writeBit b s).intEn = s.intEn := rfl
@[simp] theorem writeBit_intStatus : (writeBit b s).intStatus = s.intStatus := rfl
@[simp] theorem writeBit_index : (writeBit b s).index = s.index := rfl
@[simp] theorem writeBit_progress : (writeBit b s).progress = s.progress := rfl
@[simp] theorem writeBit_total : (writeBit b s).total = s.total := rfl
@[simp] theorem writeBit_payloadCount : (writeBit b s).payloadCount = s.payloadCount := rfl
@[simp] theorem writeBit_hist : (writeBit b s).hist = s.hist := rfl
@[simp] theorem writeBit_codeLen : (writeBit b s).codeLen = s.codeLen := rfl
@[simp] theorem writeBit_codeVal : (writeBit b s).codeVal = s.codeVal := rfl
@[simp] theorem writeBit_numEntries : (writeBit b s).numEntries = s.numEntries := rfl
@[simp] theorem writeBit_dtab : (writeBit b s).dtab = s.dtab := rfl
@[simp] theorem writeBit_dnum : (writeBit b s).dnum = s.dnum := rfl
@[simp] theorem writeBit_bwBuf : (writeBit b s).bwBuf = (writerStep s.bwBuf s.bwCnt b).1 := rfl
@[simp] theorem writeBit_bwCnt : (writeBit b s).bwCnt = (writerStep s.bwBuf s.bwCnt b).2.1 := rfl
@[simp] theorem writeBit_brBuf : (writeBit b s).brBuf = s.brBuf := rfl
@[simp] theorem writeBit_brCnt : (writeBit b s).brCnt = s.brCnt := rfl
@[simp] theorem writeBit_node : (writeBit b s).node = s.node := rfl
@[simp] theorem writeBit_queue : (writeBit b s).queue = s.queue := rfl
@[simp] theorem writeBit_nextSeq : (writeBit b s).nextSeq = s.nextSeq := rfl
@[simp] theorem writeBit_acc : (writeBit b s).acc = s.acc := rfl
@[simp] theorem writeBit_accLen : (writeBit b s).accLen = s.accLen := rfl
@[simp] theorem writeBit_seq : (writeBit b s).seq = s.seq := rfl
@[simp] theorem writeBit_inFifo : (writeBit b s).inFifo = s.inFifo := rfl
@[simp] theorem writeBit_inOvf : (writeBit b s).inOvf = s.inOvf := rfl
@[simp] theorem writeBit_outFifo : (writeBit b s).outFifo = s.outFifo ++ (writerStep s.bwBuf s.bwCnt b).2.2.toList := rfl
@[simp] theorem writeBit_program : (writeBit b s).program = s.program := rfl
@[simp] theorem writeBit_reads : (writeBit b s).reads = s.reads := rfl
@[simp] theorem writeBit_turns : (writeBit b s).turns = s.turns := rfl
@[simp] theorem writeBit_draws : (writeBit b s).draws = s.draws := rfl

end

/-! ## bitWriterReset -/

section

variable (s : State)

@[simp] theorem bitWriterReset_params : (bitWriterReset s).params = s.params := rfl
@[simp] theorem bitWriterReset_cmdWord : (bitWriterReset s).cmdWord = s.cmdWord := rfl
@[simp] theorem bitWriterReset_busy : (bitWriterReset s).busy = s.busy := rfl
@[simp] theorem bitWriterReset_fault : (bitWriterReset s).fault = s.fault := rfl
@[simp] theorem bitWriterReset_cmdIgn : (bitWriterReset s).cmdIgn = s.cmdIgn := rfl
@[simp] theorem bitWriterReset_phase : (bitWriterReset s).phase = s.phase := rfl
@[simp] theorem bitWriterReset_faultCode : (bitWriterReset s).faultCode = s.faultCode := rfl
@[simp] theorem bitWriterReset_faultInfo : (bitWriterReset s).faultInfo = s.faultInfo := rfl
@[simp] theorem bitWriterReset_intEn : (bitWriterReset s).intEn = s.intEn := rfl
@[simp] theorem bitWriterReset_intStatus : (bitWriterReset s).intStatus = s.intStatus := rfl
@[simp] theorem bitWriterReset_index : (bitWriterReset s).index = s.index := rfl
@[simp] theorem bitWriterReset_progress : (bitWriterReset s).progress = s.progress := rfl
@[simp] theorem bitWriterReset_total : (bitWriterReset s).total = s.total := rfl
@[simp] theorem bitWriterReset_payloadCount : (bitWriterReset s).payloadCount = s.payloadCount := rfl
@[simp] theorem bitWriterReset_hist : (bitWriterReset s).hist = s.hist := rfl
@[simp] theorem bitWriterReset_codeLen : (bitWriterReset s).codeLen = s.codeLen := rfl
@[simp] theorem bitWriterReset_codeVal : (bitWriterReset s).codeVal = s.codeVal := rfl
@[simp] theorem bitWriterReset_numEntries : (bitWriterReset s).numEntries = s.numEntries := rfl
@[simp] theorem bitWriterReset_dtab : (bitWriterReset s).dtab = s.dtab := rfl
@[simp] theorem bitWriterReset_dnum : (bitWriterReset s).dnum = s.dnum := rfl
@[simp] theorem bitWriterReset_bwBuf : (bitWriterReset s).bwBuf = 0#8 := rfl
@[simp] theorem bitWriterReset_bwCnt : (bitWriterReset s).bwCnt = 0#3 := rfl
@[simp] theorem bitWriterReset_brBuf : (bitWriterReset s).brBuf = s.brBuf := rfl
@[simp] theorem bitWriterReset_brCnt : (bitWriterReset s).brCnt = s.brCnt := rfl
@[simp] theorem bitWriterReset_node : (bitWriterReset s).node = s.node := rfl
@[simp] theorem bitWriterReset_queue : (bitWriterReset s).queue = s.queue := rfl
@[simp] theorem bitWriterReset_nextSeq : (bitWriterReset s).nextSeq = s.nextSeq := rfl
@[simp] theorem bitWriterReset_acc : (bitWriterReset s).acc = s.acc := rfl
@[simp] theorem bitWriterReset_accLen : (bitWriterReset s).accLen = s.accLen := rfl
@[simp] theorem bitWriterReset_seq : (bitWriterReset s).seq = s.seq := rfl
@[simp] theorem bitWriterReset_inFifo : (bitWriterReset s).inFifo = s.inFifo := rfl
@[simp] theorem bitWriterReset_inOvf : (bitWriterReset s).inOvf = s.inOvf := rfl
@[simp] theorem bitWriterReset_outFifo : (bitWriterReset s).outFifo = s.outFifo := rfl
@[simp] theorem bitWriterReset_program : (bitWriterReset s).program = s.program := rfl
@[simp] theorem bitWriterReset_reads : (bitWriterReset s).reads = s.reads := rfl
@[simp] theorem bitWriterReset_turns : (bitWriterReset s).turns = s.turns := rfl
@[simp] theorem bitWriterReset_draws : (bitWriterReset s).draws = s.draws := rfl

end

/-! ## bitFlush -/

section

variable (s : State)

@[simp] theorem bitFlush_params : (bitFlush s).params = s.params := rfl
@[simp] theorem bitFlush_cmdWord : (bitFlush s).cmdWord = s.cmdWord := rfl
@[simp] theorem bitFlush_busy : (bitFlush s).busy = s.busy := rfl
@[simp] theorem bitFlush_fault : (bitFlush s).fault = s.fault := rfl
@[simp] theorem bitFlush_cmdIgn : (bitFlush s).cmdIgn = s.cmdIgn := rfl
@[simp] theorem bitFlush_phase : (bitFlush s).phase = s.phase := rfl
@[simp] theorem bitFlush_faultCode : (bitFlush s).faultCode = s.faultCode := rfl
@[simp] theorem bitFlush_faultInfo : (bitFlush s).faultInfo = s.faultInfo := rfl
@[simp] theorem bitFlush_intEn : (bitFlush s).intEn = s.intEn := rfl
@[simp] theorem bitFlush_intStatus : (bitFlush s).intStatus = s.intStatus := rfl
@[simp] theorem bitFlush_index : (bitFlush s).index = s.index := rfl
@[simp] theorem bitFlush_progress : (bitFlush s).progress = s.progress := rfl
@[simp] theorem bitFlush_total : (bitFlush s).total = s.total := rfl
@[simp] theorem bitFlush_payloadCount : (bitFlush s).payloadCount = s.payloadCount := rfl
@[simp] theorem bitFlush_hist : (bitFlush s).hist = s.hist := rfl
@[simp] theorem bitFlush_codeLen : (bitFlush s).codeLen = s.codeLen := rfl
@[simp] theorem bitFlush_codeVal : (bitFlush s).codeVal = s.codeVal := rfl
@[simp] theorem bitFlush_numEntries : (bitFlush s).numEntries = s.numEntries := rfl
@[simp] theorem bitFlush_dtab : (bitFlush s).dtab = s.dtab := rfl
@[simp] theorem bitFlush_dnum : (bitFlush s).dnum = s.dnum := rfl
@[simp] theorem bitFlush_bwBuf : (bitFlush s).bwBuf = 0#8 := rfl
@[simp] theorem bitFlush_bwCnt : (bitFlush s).bwCnt = 0#3 := rfl
@[simp] theorem bitFlush_brBuf : (bitFlush s).brBuf = s.brBuf := rfl
@[simp] theorem bitFlush_brCnt : (bitFlush s).brCnt = s.brCnt := rfl
@[simp] theorem bitFlush_node : (bitFlush s).node = s.node := rfl
@[simp] theorem bitFlush_queue : (bitFlush s).queue = s.queue := rfl
@[simp] theorem bitFlush_nextSeq : (bitFlush s).nextSeq = s.nextSeq := rfl
@[simp] theorem bitFlush_acc : (bitFlush s).acc = s.acc := rfl
@[simp] theorem bitFlush_accLen : (bitFlush s).accLen = s.accLen := rfl
@[simp] theorem bitFlush_seq : (bitFlush s).seq = s.seq := rfl
@[simp] theorem bitFlush_inFifo : (bitFlush s).inFifo = s.inFifo := rfl
@[simp] theorem bitFlush_inOvf : (bitFlush s).inOvf = s.inOvf := rfl
@[simp] theorem bitFlush_outFifo : (bitFlush s).outFifo = s.outFifo ++ [flushByte s.bwBuf s.bwCnt] := rfl
@[simp] theorem bitFlush_program : (bitFlush s).program = s.program := rfl
@[simp] theorem bitFlush_reads : (bitFlush s).reads = s.reads := rfl
@[simp] theorem bitFlush_turns : (bitFlush s).turns = s.turns := rfl
@[simp] theorem bitFlush_draws : (bitFlush s).draws = s.draws := rfl

end

/-! ## bitReaderReset -/

section

variable (s : State)

@[simp] theorem bitReaderReset_params : (bitReaderReset s).params = s.params := rfl
@[simp] theorem bitReaderReset_cmdWord : (bitReaderReset s).cmdWord = s.cmdWord := rfl
@[simp] theorem bitReaderReset_busy : (bitReaderReset s).busy = s.busy := rfl
@[simp] theorem bitReaderReset_fault : (bitReaderReset s).fault = s.fault := rfl
@[simp] theorem bitReaderReset_cmdIgn : (bitReaderReset s).cmdIgn = s.cmdIgn := rfl
@[simp] theorem bitReaderReset_phase : (bitReaderReset s).phase = s.phase := rfl
@[simp] theorem bitReaderReset_faultCode : (bitReaderReset s).faultCode = s.faultCode := rfl
@[simp] theorem bitReaderReset_faultInfo : (bitReaderReset s).faultInfo = s.faultInfo := rfl
@[simp] theorem bitReaderReset_intEn : (bitReaderReset s).intEn = s.intEn := rfl
@[simp] theorem bitReaderReset_intStatus : (bitReaderReset s).intStatus = s.intStatus := rfl
@[simp] theorem bitReaderReset_index : (bitReaderReset s).index = s.index := rfl
@[simp] theorem bitReaderReset_progress : (bitReaderReset s).progress = s.progress := rfl
@[simp] theorem bitReaderReset_total : (bitReaderReset s).total = s.total := rfl
@[simp] theorem bitReaderReset_payloadCount : (bitReaderReset s).payloadCount = s.payloadCount := rfl
@[simp] theorem bitReaderReset_hist : (bitReaderReset s).hist = s.hist := rfl
@[simp] theorem bitReaderReset_codeLen : (bitReaderReset s).codeLen = s.codeLen := rfl
@[simp] theorem bitReaderReset_codeVal : (bitReaderReset s).codeVal = s.codeVal := rfl
@[simp] theorem bitReaderReset_numEntries : (bitReaderReset s).numEntries = s.numEntries := rfl
@[simp] theorem bitReaderReset_dtab : (bitReaderReset s).dtab = s.dtab := rfl
@[simp] theorem bitReaderReset_dnum : (bitReaderReset s).dnum = s.dnum := rfl
@[simp] theorem bitReaderReset_bwBuf : (bitReaderReset s).bwBuf = s.bwBuf := rfl
@[simp] theorem bitReaderReset_bwCnt : (bitReaderReset s).bwCnt = s.bwCnt := rfl
@[simp] theorem bitReaderReset_brBuf : (bitReaderReset s).brBuf = 0#8 := rfl
@[simp] theorem bitReaderReset_brCnt : (bitReaderReset s).brCnt = 0#4 := rfl
@[simp] theorem bitReaderReset_node : (bitReaderReset s).node = s.node := rfl
@[simp] theorem bitReaderReset_queue : (bitReaderReset s).queue = s.queue := rfl
@[simp] theorem bitReaderReset_nextSeq : (bitReaderReset s).nextSeq = s.nextSeq := rfl
@[simp] theorem bitReaderReset_acc : (bitReaderReset s).acc = s.acc := rfl
@[simp] theorem bitReaderReset_accLen : (bitReaderReset s).accLen = s.accLen := rfl
@[simp] theorem bitReaderReset_seq : (bitReaderReset s).seq = s.seq := rfl
@[simp] theorem bitReaderReset_inFifo : (bitReaderReset s).inFifo = s.inFifo := rfl
@[simp] theorem bitReaderReset_inOvf : (bitReaderReset s).inOvf = s.inOvf := rfl
@[simp] theorem bitReaderReset_outFifo : (bitReaderReset s).outFifo = s.outFifo := rfl
@[simp] theorem bitReaderReset_program : (bitReaderReset s).program = s.program := rfl
@[simp] theorem bitReaderReset_reads : (bitReaderReset s).reads = s.reads := rfl
@[simp] theorem bitReaderReset_turns : (bitReaderReset s).turns = s.turns := rfl
@[simp] theorem bitReaderReset_draws : (bitReaderReset s).draws = s.draws := rfl

end

/-! ## complete -/

section

variable (p : Phase) (s : State)

@[simp] theorem complete_params : (complete p s).params = s.params := rfl
@[simp] theorem complete_cmdWord : (complete p s).cmdWord = s.cmdWord := rfl
@[simp] theorem complete_busy : (complete p s).busy = false := rfl
@[simp] theorem complete_fault : (complete p s).fault = s.fault := rfl
@[simp] theorem complete_cmdIgn : (complete p s).cmdIgn = s.cmdIgn := rfl
@[simp] theorem complete_phase : (complete p s).phase = p := rfl
@[simp] theorem complete_faultCode : (complete p s).faultCode = s.faultCode := rfl
@[simp] theorem complete_faultInfo : (complete p s).faultInfo = s.faultInfo := rfl
@[simp] theorem complete_intEn : (complete p s).intEn = s.intEn := rfl
@[simp] theorem complete_intStatus : (complete p s).intStatus = s.intStatus ||| 1#2 := rfl
@[simp] theorem complete_index : (complete p s).index = s.index := rfl
@[simp] theorem complete_progress : (complete p s).progress = s.progress := rfl
@[simp] theorem complete_total : (complete p s).total = s.total := rfl
@[simp] theorem complete_payloadCount : (complete p s).payloadCount = s.payloadCount := rfl
@[simp] theorem complete_hist : (complete p s).hist = s.hist := rfl
@[simp] theorem complete_codeLen : (complete p s).codeLen = s.codeLen := rfl
@[simp] theorem complete_codeVal : (complete p s).codeVal = s.codeVal := rfl
@[simp] theorem complete_numEntries : (complete p s).numEntries = s.numEntries := rfl
@[simp] theorem complete_dtab : (complete p s).dtab = s.dtab := rfl
@[simp] theorem complete_dnum : (complete p s).dnum = s.dnum := rfl
@[simp] theorem complete_bwBuf : (complete p s).bwBuf = s.bwBuf := rfl
@[simp] theorem complete_bwCnt : (complete p s).bwCnt = s.bwCnt := rfl
@[simp] theorem complete_brBuf : (complete p s).brBuf = s.brBuf := rfl
@[simp] theorem complete_brCnt : (complete p s).brCnt = s.brCnt := rfl
@[simp] theorem complete_node : (complete p s).node = s.node := rfl
@[simp] theorem complete_queue : (complete p s).queue = s.queue := rfl
@[simp] theorem complete_nextSeq : (complete p s).nextSeq = s.nextSeq := rfl
@[simp] theorem complete_acc : (complete p s).acc = s.acc := rfl
@[simp] theorem complete_accLen : (complete p s).accLen = s.accLen := rfl
@[simp] theorem complete_seq : (complete p s).seq = .idle := rfl
@[simp] theorem complete_inFifo : (complete p s).inFifo = s.inFifo := rfl
@[simp] theorem complete_inOvf : (complete p s).inOvf = s.inOvf := rfl
@[simp] theorem complete_outFifo : (complete p s).outFifo = s.outFifo := rfl
@[simp] theorem complete_program : (complete p s).program = s.program := rfl
@[simp] theorem complete_reads : (complete p s).reads = s.reads := rfl
@[simp] theorem complete_turns : (complete p s).turns = s.turns := rfl
@[simp] theorem complete_draws : (complete p s).draws = s.draws := rfl

end

/-! ## raiseFault -/

section

variable (c : FaultCode) (v : Word) (s : State)

@[simp] theorem raiseFault_params : (raiseFault c v s).params = s.params := rfl
@[simp] theorem raiseFault_cmdWord : (raiseFault c v s).cmdWord = s.cmdWord := rfl
@[simp] theorem raiseFault_busy : (raiseFault c v s).busy = false := rfl
@[simp] theorem raiseFault_fault : (raiseFault c v s).fault = true := rfl
@[simp] theorem raiseFault_cmdIgn : (raiseFault c v s).cmdIgn = s.cmdIgn := rfl
@[simp] theorem raiseFault_phase : (raiseFault c v s).phase = s.phase := rfl
@[simp] theorem raiseFault_faultCode : (raiseFault c v s).faultCode = c := rfl
@[simp] theorem raiseFault_faultInfo : (raiseFault c v s).faultInfo = v := rfl
@[simp] theorem raiseFault_intEn : (raiseFault c v s).intEn = s.intEn := rfl
@[simp] theorem raiseFault_intStatus : (raiseFault c v s).intStatus = s.intStatus ||| 2#2 := rfl
@[simp] theorem raiseFault_index : (raiseFault c v s).index = s.index := rfl
@[simp] theorem raiseFault_progress : (raiseFault c v s).progress = s.progress := rfl
@[simp] theorem raiseFault_total : (raiseFault c v s).total = s.total := rfl
@[simp] theorem raiseFault_payloadCount : (raiseFault c v s).payloadCount = s.payloadCount := rfl
@[simp] theorem raiseFault_hist : (raiseFault c v s).hist = s.hist := rfl
@[simp] theorem raiseFault_codeLen : (raiseFault c v s).codeLen = s.codeLen := rfl
@[simp] theorem raiseFault_codeVal : (raiseFault c v s).codeVal = s.codeVal := rfl
@[simp] theorem raiseFault_numEntries : (raiseFault c v s).numEntries = s.numEntries := rfl
@[simp] theorem raiseFault_dtab : (raiseFault c v s).dtab = s.dtab := rfl
@[simp] theorem raiseFault_dnum : (raiseFault c v s).dnum = s.dnum := rfl
@[simp] theorem raiseFault_bwBuf : (raiseFault c v s).bwBuf = s.bwBuf := rfl
@[simp] theorem raiseFault_bwCnt : (raiseFault c v s).bwCnt = s.bwCnt := rfl
@[simp] theorem raiseFault_brBuf : (raiseFault c v s).brBuf = s.brBuf := rfl
@[simp] theorem raiseFault_brCnt : (raiseFault c v s).brCnt = s.brCnt := rfl
@[simp] theorem raiseFault_node : (raiseFault c v s).node = s.node := rfl
@[simp] theorem raiseFault_queue : (raiseFault c v s).queue = s.queue := rfl
@[simp] theorem raiseFault_nextSeq : (raiseFault c v s).nextSeq = s.nextSeq := rfl
@[simp] theorem raiseFault_acc : (raiseFault c v s).acc = s.acc := rfl
@[simp] theorem raiseFault_accLen : (raiseFault c v s).accLen = s.accLen := rfl
@[simp] theorem raiseFault_seq : (raiseFault c v s).seq = .idle := rfl
@[simp] theorem raiseFault_inFifo : (raiseFault c v s).inFifo = s.inFifo := rfl
@[simp] theorem raiseFault_inOvf : (raiseFault c v s).inOvf = s.inOvf := rfl
@[simp] theorem raiseFault_outFifo : (raiseFault c v s).outFifo = s.outFifo := rfl
@[simp] theorem raiseFault_program : (raiseFault c v s).program = s.program := rfl
@[simp] theorem raiseFault_reads : (raiseFault c v s).reads = s.reads := rfl
@[simp] theorem raiseFault_turns : (raiseFault c v s).turns = s.turns := rfl
@[simp] theorem raiseFault_draws : (raiseFault c v s).draws = s.draws := rfl

end

/-! ## leaveFault -/

section

variable (s : State)

@[simp] theorem leaveFault_params : (leaveFault s).params = s.params := rfl
@[simp] theorem leaveFault_cmdWord : (leaveFault s).cmdWord = s.cmdWord := rfl
@[simp] theorem leaveFault_busy : (leaveFault s).busy = s.busy := rfl
@[simp] theorem leaveFault_fault : (leaveFault s).fault = false := rfl
@[simp] theorem leaveFault_cmdIgn : (leaveFault s).cmdIgn = s.cmdIgn := rfl
@[simp] theorem leaveFault_phase : (leaveFault s).phase = s.phase := rfl
@[simp] theorem leaveFault_faultCode : (leaveFault s).faultCode = .none := rfl
@[simp] theorem leaveFault_faultInfo : (leaveFault s).faultInfo = 0#32 := rfl
@[simp] theorem leaveFault_intEn : (leaveFault s).intEn = s.intEn := rfl
@[simp] theorem leaveFault_intStatus : (leaveFault s).intStatus = s.intStatus := rfl
@[simp] theorem leaveFault_index : (leaveFault s).index = s.index := rfl
@[simp] theorem leaveFault_progress : (leaveFault s).progress = s.progress := rfl
@[simp] theorem leaveFault_total : (leaveFault s).total = s.total := rfl
@[simp] theorem leaveFault_payloadCount : (leaveFault s).payloadCount = s.payloadCount := rfl
@[simp] theorem leaveFault_hist : (leaveFault s).hist = s.hist := rfl
@[simp] theorem leaveFault_codeLen : (leaveFault s).codeLen = s.codeLen := rfl
@[simp] theorem leaveFault_codeVal : (leaveFault s).codeVal = s.codeVal := rfl
@[simp] theorem leaveFault_numEntries : (leaveFault s).numEntries = s.numEntries := rfl
@[simp] theorem leaveFault_dtab : (leaveFault s).dtab = s.dtab := rfl
@[simp] theorem leaveFault_dnum : (leaveFault s).dnum = s.dnum := rfl
@[simp] theorem leaveFault_bwBuf : (leaveFault s).bwBuf = s.bwBuf := rfl
@[simp] theorem leaveFault_bwCnt : (leaveFault s).bwCnt = s.bwCnt := rfl
@[simp] theorem leaveFault_brBuf : (leaveFault s).brBuf = s.brBuf := rfl
@[simp] theorem leaveFault_brCnt : (leaveFault s).brCnt = s.brCnt := rfl
@[simp] theorem leaveFault_node : (leaveFault s).node = s.node := rfl
@[simp] theorem leaveFault_queue : (leaveFault s).queue = s.queue := rfl
@[simp] theorem leaveFault_nextSeq : (leaveFault s).nextSeq = s.nextSeq := rfl
@[simp] theorem leaveFault_acc : (leaveFault s).acc = s.acc := rfl
@[simp] theorem leaveFault_accLen : (leaveFault s).accLen = s.accLen := rfl
@[simp] theorem leaveFault_seq : (leaveFault s).seq = s.seq := rfl
@[simp] theorem leaveFault_inFifo : (leaveFault s).inFifo = s.inFifo := rfl
@[simp] theorem leaveFault_inOvf : (leaveFault s).inOvf = s.inOvf := rfl
@[simp] theorem leaveFault_outFifo : (leaveFault s).outFifo = s.outFifo := rfl
@[simp] theorem leaveFault_program : (leaveFault s).program = s.program := rfl
@[simp] theorem leaveFault_reads : (leaveFault s).reads = s.reads := rfl
@[simp] theorem leaveFault_turns : (leaveFault s).turns = s.turns := rfl
@[simp] theorem leaveFault_draws : (leaveFault s).draws = s.draws := rfl

end

/-! ## goto -/

section

variable (p : Seq) (s : State)

@[simp] theorem goto_params : (goto p s).params = s.params := rfl
@[simp] theorem goto_cmdWord : (goto p s).cmdWord = s.cmdWord := rfl
@[simp] theorem goto_busy : (goto p s).busy = s.busy := rfl
@[simp] theorem goto_fault : (goto p s).fault = s.fault := rfl
@[simp] theorem goto_cmdIgn : (goto p s).cmdIgn = s.cmdIgn := rfl
@[simp] theorem goto_phase : (goto p s).phase = s.phase := rfl
@[simp] theorem goto_faultCode : (goto p s).faultCode = s.faultCode := rfl
@[simp] theorem goto_faultInfo : (goto p s).faultInfo = s.faultInfo := rfl
@[simp] theorem goto_intEn : (goto p s).intEn = s.intEn := rfl
@[simp] theorem goto_intStatus : (goto p s).intStatus = s.intStatus := rfl
@[simp] theorem goto_index : (goto p s).index = s.index := rfl
@[simp] theorem goto_progress : (goto p s).progress = s.progress := rfl
@[simp] theorem goto_total : (goto p s).total = s.total := rfl
@[simp] theorem goto_payloadCount : (goto p s).payloadCount = s.payloadCount := rfl
@[simp] theorem goto_hist : (goto p s).hist = s.hist := rfl
@[simp] theorem goto_codeLen : (goto p s).codeLen = s.codeLen := rfl
@[simp] theorem goto_codeVal : (goto p s).codeVal = s.codeVal := rfl
@[simp] theorem goto_numEntries : (goto p s).numEntries = s.numEntries := rfl
@[simp] theorem goto_dtab : (goto p s).dtab = s.dtab := rfl
@[simp] theorem goto_dnum : (goto p s).dnum = s.dnum := rfl
@[simp] theorem goto_bwBuf : (goto p s).bwBuf = s.bwBuf := rfl
@[simp] theorem goto_bwCnt : (goto p s).bwCnt = s.bwCnt := rfl
@[simp] theorem goto_brBuf : (goto p s).brBuf = s.brBuf := rfl
@[simp] theorem goto_brCnt : (goto p s).brCnt = s.brCnt := rfl
@[simp] theorem goto_node : (goto p s).node = s.node := rfl
@[simp] theorem goto_queue : (goto p s).queue = s.queue := rfl
@[simp] theorem goto_nextSeq : (goto p s).nextSeq = s.nextSeq := rfl
@[simp] theorem goto_acc : (goto p s).acc = s.acc := rfl
@[simp] theorem goto_accLen : (goto p s).accLen = s.accLen := rfl
@[simp] theorem goto_seq : (goto p s).seq = p := rfl
@[simp] theorem goto_inFifo : (goto p s).inFifo = s.inFifo := rfl
@[simp] theorem goto_inOvf : (goto p s).inOvf = s.inOvf := rfl
@[simp] theorem goto_outFifo : (goto p s).outFifo = s.outFifo := rfl
@[simp] theorem goto_program : (goto p s).program = s.program := rfl
@[simp] theorem goto_reads : (goto p s).reads = s.reads := rfl
@[simp] theorem goto_turns : (goto p s).turns = s.turns := rfl
@[simp] theorem goto_draws : (goto p s).draws = s.draws := rfl

end

/-! ## setProgress -/

section

variable (v : Word) (s : State)

@[simp] theorem setProgress_params : (setProgress v s).params = s.params := rfl
@[simp] theorem setProgress_cmdWord : (setProgress v s).cmdWord = s.cmdWord := rfl
@[simp] theorem setProgress_busy : (setProgress v s).busy = s.busy := rfl
@[simp] theorem setProgress_fault : (setProgress v s).fault = s.fault := rfl
@[simp] theorem setProgress_cmdIgn : (setProgress v s).cmdIgn = s.cmdIgn := rfl
@[simp] theorem setProgress_phase : (setProgress v s).phase = s.phase := rfl
@[simp] theorem setProgress_faultCode : (setProgress v s).faultCode = s.faultCode := rfl
@[simp] theorem setProgress_faultInfo : (setProgress v s).faultInfo = s.faultInfo := rfl
@[simp] theorem setProgress_intEn : (setProgress v s).intEn = s.intEn := rfl
@[simp] theorem setProgress_intStatus : (setProgress v s).intStatus = s.intStatus := rfl
@[simp] theorem setProgress_index : (setProgress v s).index = s.index := rfl
@[simp] theorem setProgress_progress : (setProgress v s).progress = v := rfl
@[simp] theorem setProgress_total : (setProgress v s).total = s.total := rfl
@[simp] theorem setProgress_payloadCount : (setProgress v s).payloadCount = s.payloadCount := rfl
@[simp] theorem setProgress_hist : (setProgress v s).hist = s.hist := rfl
@[simp] theorem setProgress_codeLen : (setProgress v s).codeLen = s.codeLen := rfl
@[simp] theorem setProgress_codeVal : (setProgress v s).codeVal = s.codeVal := rfl
@[simp] theorem setProgress_numEntries : (setProgress v s).numEntries = s.numEntries := rfl
@[simp] theorem setProgress_dtab : (setProgress v s).dtab = s.dtab := rfl
@[simp] theorem setProgress_dnum : (setProgress v s).dnum = s.dnum := rfl
@[simp] theorem setProgress_bwBuf : (setProgress v s).bwBuf = s.bwBuf := rfl
@[simp] theorem setProgress_bwCnt : (setProgress v s).bwCnt = s.bwCnt := rfl
@[simp] theorem setProgress_brBuf : (setProgress v s).brBuf = s.brBuf := rfl
@[simp] theorem setProgress_brCnt : (setProgress v s).brCnt = s.brCnt := rfl
@[simp] theorem setProgress_node : (setProgress v s).node = s.node := rfl
@[simp] theorem setProgress_queue : (setProgress v s).queue = s.queue := rfl
@[simp] theorem setProgress_nextSeq : (setProgress v s).nextSeq = s.nextSeq := rfl
@[simp] theorem setProgress_acc : (setProgress v s).acc = s.acc := rfl
@[simp] theorem setProgress_accLen : (setProgress v s).accLen = s.accLen := rfl
@[simp] theorem setProgress_seq : (setProgress v s).seq = s.seq := rfl
@[simp] theorem setProgress_inFifo : (setProgress v s).inFifo = s.inFifo := rfl
@[simp] theorem setProgress_inOvf : (setProgress v s).inOvf = s.inOvf := rfl
@[simp] theorem setProgress_outFifo : (setProgress v s).outFifo = s.outFifo := rfl
@[simp] theorem setProgress_program : (setProgress v s).program = s.program := rfl
@[simp] theorem setProgress_reads : (setProgress v s).reads = s.reads := rfl
@[simp] theorem setProgress_turns : (setProgress v s).turns = s.turns := rfl
@[simp] theorem setProgress_draws : (setProgress v s).draws = s.draws := rfl

end

/-! ## ignoreWord -/

section

variable (s : State)

@[simp] theorem ignoreWord_params : (ignoreWord s).params = s.params := rfl
@[simp] theorem ignoreWord_cmdWord : (ignoreWord s).cmdWord = s.cmdWord := rfl
@[simp] theorem ignoreWord_busy : (ignoreWord s).busy = s.busy := rfl
@[simp] theorem ignoreWord_fault : (ignoreWord s).fault = s.fault := rfl
@[simp] theorem ignoreWord_cmdIgn : (ignoreWord s).cmdIgn = true := rfl
@[simp] theorem ignoreWord_phase : (ignoreWord s).phase = s.phase := rfl
@[simp] theorem ignoreWord_faultCode : (ignoreWord s).faultCode = s.faultCode := rfl
@[simp] theorem ignoreWord_faultInfo : (ignoreWord s).faultInfo = s.faultInfo := rfl
@[simp] theorem ignoreWord_intEn : (ignoreWord s).intEn = s.intEn := rfl
@[simp] theorem ignoreWord_intStatus : (ignoreWord s).intStatus = s.intStatus := rfl
@[simp] theorem ignoreWord_index : (ignoreWord s).index = s.index := rfl
@[simp] theorem ignoreWord_progress : (ignoreWord s).progress = s.progress := rfl
@[simp] theorem ignoreWord_total : (ignoreWord s).total = s.total := rfl
@[simp] theorem ignoreWord_payloadCount : (ignoreWord s).payloadCount = s.payloadCount := rfl
@[simp] theorem ignoreWord_hist : (ignoreWord s).hist = s.hist := rfl
@[simp] theorem ignoreWord_codeLen : (ignoreWord s).codeLen = s.codeLen := rfl
@[simp] theorem ignoreWord_codeVal : (ignoreWord s).codeVal = s.codeVal := rfl
@[simp] theorem ignoreWord_numEntries : (ignoreWord s).numEntries = s.numEntries := rfl
@[simp] theorem ignoreWord_dtab : (ignoreWord s).dtab = s.dtab := rfl
@[simp] theorem ignoreWord_dnum : (ignoreWord s).dnum = s.dnum := rfl
@[simp] theorem ignoreWord_bwBuf : (ignoreWord s).bwBuf = s.bwBuf := rfl
@[simp] theorem ignoreWord_bwCnt : (ignoreWord s).bwCnt = s.bwCnt := rfl
@[simp] theorem ignoreWord_brBuf : (ignoreWord s).brBuf = s.brBuf := rfl
@[simp] theorem ignoreWord_brCnt : (ignoreWord s).brCnt = s.brCnt := rfl
@[simp] theorem ignoreWord_node : (ignoreWord s).node = s.node := rfl
@[simp] theorem ignoreWord_queue : (ignoreWord s).queue = s.queue := rfl
@[simp] theorem ignoreWord_nextSeq : (ignoreWord s).nextSeq = s.nextSeq := rfl
@[simp] theorem ignoreWord_acc : (ignoreWord s).acc = s.acc := rfl
@[simp] theorem ignoreWord_accLen : (ignoreWord s).accLen = s.accLen := rfl
@[simp] theorem ignoreWord_seq : (ignoreWord s).seq = s.seq := rfl
@[simp] theorem ignoreWord_inFifo : (ignoreWord s).inFifo = s.inFifo := rfl
@[simp] theorem ignoreWord_inOvf : (ignoreWord s).inOvf = s.inOvf := rfl
@[simp] theorem ignoreWord_outFifo : (ignoreWord s).outFifo = s.outFifo := rfl
@[simp] theorem ignoreWord_program : (ignoreWord s).program = s.program := rfl
@[simp] theorem ignoreWord_reads : (ignoreWord s).reads = s.reads := rfl
@[simp] theorem ignoreWord_turns : (ignoreWord s).turns = s.turns := rfl
@[simp] theorem ignoreWord_draws : (ignoreWord s).draws = s.draws := rfl

end

/-! ## acceptWord -/

section

variable (w : Word) (s : State)

@[simp] theorem acceptWord_params : (acceptWord w s).params = s.params := rfl
@[simp] theorem acceptWord_cmdWord : (acceptWord w s).cmdWord = w := rfl
@[simp] theorem acceptWord_busy : (acceptWord w s).busy = true := rfl
@[simp] theorem acceptWord_fault : (acceptWord w s).fault = s.fault := rfl
@[simp] theorem acceptWord_cmdIgn : (acceptWord w s).cmdIgn = false := rfl
@[simp] theorem acceptWord_phase : (acceptWord w s).phase = s.phase := rfl
@[simp] theorem acceptWord_faultCode : (acceptWord w s).faultCode = s.faultCode := rfl
@[simp] theorem acceptWord_faultInfo : (acceptWord w s).faultInfo = s.faultInfo := rfl
@[simp] theorem acceptWord_intEn : (acceptWord w s).intEn = s.intEn := rfl
@[simp] theorem acceptWord_intStatus : (acceptWord w s).intStatus = s.intStatus := rfl
@[simp] theorem acceptWord_index : (acceptWord w s).index = s.index := rfl
@[simp] theorem acceptWord_progress : (acceptWord w s).progress = 0#32 := rfl
@[simp] theorem acceptWord_total : (acceptWord w s).total = s.total := rfl
@[simp] theorem acceptWord_payloadCount : (acceptWord w s).payloadCount = s.payloadCount := rfl
@[simp] theorem acceptWord_hist : (acceptWord w s).hist = s.hist := rfl
@[simp] theorem acceptWord_codeLen : (acceptWord w s).codeLen = s.codeLen := rfl
@[simp] theorem acceptWord_codeVal : (acceptWord w s).codeVal = s.codeVal := rfl
@[simp] theorem acceptWord_numEntries : (acceptWord w s).numEntries = s.numEntries := rfl
@[simp] theorem acceptWord_dtab : (acceptWord w s).dtab = s.dtab := rfl
@[simp] theorem acceptWord_dnum : (acceptWord w s).dnum = s.dnum := rfl
@[simp] theorem acceptWord_bwBuf : (acceptWord w s).bwBuf = s.bwBuf := rfl
@[simp] theorem acceptWord_bwCnt : (acceptWord w s).bwCnt = s.bwCnt := rfl
@[simp] theorem acceptWord_brBuf : (acceptWord w s).brBuf = s.brBuf := rfl
@[simp] theorem acceptWord_brCnt : (acceptWord w s).brCnt = s.brCnt := rfl
@[simp] theorem acceptWord_node : (acceptWord w s).node = s.node := rfl
@[simp] theorem acceptWord_queue : (acceptWord w s).queue = s.queue := rfl
@[simp] theorem acceptWord_nextSeq : (acceptWord w s).nextSeq = s.nextSeq := rfl
@[simp] theorem acceptWord_acc : (acceptWord w s).acc = s.acc := rfl
@[simp] theorem acceptWord_accLen : (acceptWord w s).accLen = s.accLen := rfl
@[simp] theorem acceptWord_seq : (acceptWord w s).seq = s.seq := rfl
@[simp] theorem acceptWord_inFifo : (acceptWord w s).inFifo = s.inFifo := rfl
@[simp] theorem acceptWord_inOvf : (acceptWord w s).inOvf = s.inOvf := rfl
@[simp] theorem acceptWord_outFifo : (acceptWord w s).outFifo = s.outFifo := rfl
@[simp] theorem acceptWord_program : (acceptWord w s).program = s.program := rfl
@[simp] theorem acceptWord_reads : (acceptWord w s).reads = s.reads := rfl
@[simp] theorem acceptWord_turns : (acceptWord w s).turns = s.turns := rfl
@[simp] theorem acceptWord_draws : (acceptWord w s).draws = s.draws := rfl

end

/-! ## countByte -/

section

variable (b : Byte) (s : State)

@[simp] theorem countByte_params : (countByte b s).params = s.params := rfl
@[simp] theorem countByte_cmdWord : (countByte b s).cmdWord = s.cmdWord := rfl
@[simp] theorem countByte_busy : (countByte b s).busy = s.busy := rfl
@[simp] theorem countByte_fault : (countByte b s).fault = s.fault := rfl
@[simp] theorem countByte_cmdIgn : (countByte b s).cmdIgn = s.cmdIgn := rfl
@[simp] theorem countByte_phase : (countByte b s).phase = s.phase := rfl
@[simp] theorem countByte_faultCode : (countByte b s).faultCode = s.faultCode := rfl
@[simp] theorem countByte_faultInfo : (countByte b s).faultInfo = s.faultInfo := rfl
@[simp] theorem countByte_intEn : (countByte b s).intEn = s.intEn := rfl
@[simp] theorem countByte_intStatus : (countByte b s).intStatus = s.intStatus := rfl
@[simp] theorem countByte_index : (countByte b s).index = s.index := rfl
@[simp] theorem countByte_progress : (countByte b s).progress = s.total + 1#32 := rfl
@[simp] theorem countByte_total : (countByte b s).total = s.total + 1#32 := rfl
@[simp] theorem countByte_payloadCount : (countByte b s).payloadCount = s.payloadCount := rfl
@[simp] theorem countByte_hist : (countByte b s).hist = tabSet s.hist b (tabGet s.hist b + 1#32) := rfl
@[simp] theorem countByte_codeLen : (countByte b s).codeLen = s.codeLen := rfl
@[simp] theorem countByte_codeVal : (countByte b s).codeVal = s.codeVal := rfl
@[simp] theorem countByte_numEntries : (countByte b s).numEntries = s.numEntries := rfl
@[simp] theorem countByte_dtab : (countByte b s).dtab = s.dtab := rfl
@[simp] theorem countByte_dnum : (countByte b s).dnum = s.dnum := rfl
@[simp] theorem countByte_bwBuf : (countByte b s).bwBuf = s.bwBuf := rfl
@[simp] theorem countByte_bwCnt : (countByte b s).bwCnt = s.bwCnt := rfl
@[simp] theorem countByte_brBuf : (countByte b s).brBuf = s.brBuf := rfl
@[simp] theorem countByte_brCnt : (countByte b s).brCnt = s.brCnt := rfl
@[simp] theorem countByte_node : (countByte b s).node = s.node := rfl
@[simp] theorem countByte_queue : (countByte b s).queue = s.queue := rfl
@[simp] theorem countByte_nextSeq : (countByte b s).nextSeq = s.nextSeq := rfl
@[simp] theorem countByte_acc : (countByte b s).acc = s.acc := rfl
@[simp] theorem countByte_accLen : (countByte b s).accLen = s.accLen := rfl
@[simp] theorem countByte_seq : (countByte b s).seq = s.seq := rfl
@[simp] theorem countByte_inFifo : (countByte b s).inFifo = s.inFifo := rfl
@[simp] theorem countByte_inOvf : (countByte b s).inOvf = s.inOvf := rfl
@[simp] theorem countByte_outFifo : (countByte b s).outFifo = s.outFifo := rfl
@[simp] theorem countByte_program : (countByte b s).program = s.program := rfl
@[simp] theorem countByte_reads : (countByte b s).reads = s.reads := rfl
@[simp] theorem countByte_turns : (countByte b s).turns = s.turns := rfl
@[simp] theorem countByte_draws : (countByte b s).draws = s.draws := rfl

end

/-! ## setCode -/

section

variable (b : Byte) (l : BitVec 5) (v : BitVec 31) (s : State)

@[simp] theorem setCode_params : (setCode b l v s).params = s.params := rfl
@[simp] theorem setCode_cmdWord : (setCode b l v s).cmdWord = s.cmdWord := rfl
@[simp] theorem setCode_busy : (setCode b l v s).busy = s.busy := rfl
@[simp] theorem setCode_fault : (setCode b l v s).fault = s.fault := rfl
@[simp] theorem setCode_cmdIgn : (setCode b l v s).cmdIgn = s.cmdIgn := rfl
@[simp] theorem setCode_phase : (setCode b l v s).phase = s.phase := rfl
@[simp] theorem setCode_faultCode : (setCode b l v s).faultCode = s.faultCode := rfl
@[simp] theorem setCode_faultInfo : (setCode b l v s).faultInfo = s.faultInfo := rfl
@[simp] theorem setCode_intEn : (setCode b l v s).intEn = s.intEn := rfl
@[simp] theorem setCode_intStatus : (setCode b l v s).intStatus = s.intStatus := rfl
@[simp] theorem setCode_index : (setCode b l v s).index = s.index := rfl
@[simp] theorem setCode_progress : (setCode b l v s).progress = s.progress := rfl
@[simp] theorem setCode_total : (setCode b l v s).total = s.total := rfl
@[simp] theorem setCode_payloadCount : (setCode b l v s).payloadCount = s.payloadCount := rfl
@[simp] theorem setCode_hist : (setCode b l v s).hist = s.hist := rfl
@[simp] theorem setCode_codeLen : (setCode b l v s).codeLen = tabSet s.codeLen b l := rfl
@[simp] theorem setCode_codeVal : (setCode b l v s).codeVal = tabSet s.codeVal b v := rfl
@[simp] theorem setCode_numEntries : (setCode b l v s).numEntries = s.numEntries := rfl
@[simp] theorem setCode_dtab : (setCode b l v s).dtab = s.dtab := rfl
@[simp] theorem setCode_dnum : (setCode b l v s).dnum = s.dnum := rfl
@[simp] theorem setCode_bwBuf : (setCode b l v s).bwBuf = s.bwBuf := rfl
@[simp] theorem setCode_bwCnt : (setCode b l v s).bwCnt = s.bwCnt := rfl
@[simp] theorem setCode_brBuf : (setCode b l v s).brBuf = s.brBuf := rfl
@[simp] theorem setCode_brCnt : (setCode b l v s).brCnt = s.brCnt := rfl
@[simp] theorem setCode_node : (setCode b l v s).node = s.node := rfl
@[simp] theorem setCode_queue : (setCode b l v s).queue = s.queue := rfl
@[simp] theorem setCode_nextSeq : (setCode b l v s).nextSeq = s.nextSeq := rfl
@[simp] theorem setCode_acc : (setCode b l v s).acc = s.acc := rfl
@[simp] theorem setCode_accLen : (setCode b l v s).accLen = s.accLen := rfl
@[simp] theorem setCode_seq : (setCode b l v s).seq = s.seq := rfl
@[simp] theorem setCode_inFifo : (setCode b l v s).inFifo = s.inFifo := rfl
@[simp] theorem setCode_inOvf : (setCode b l v s).inOvf = s.inOvf := rfl
@[simp] theorem setCode_outFifo : (setCode b l v s).outFifo = s.outFifo := rfl
@[simp] theorem setCode_program : (setCode b l v s).program = s.program := rfl
@[simp] theorem setCode_reads : (setCode b l v s).reads = s.reads := rfl
@[simp] theorem setCode_turns : (setCode b l v s).turns = s.turns := rfl
@[simp] theorem setCode_draws : (setCode b l v s).draws = s.draws := rfl

end

/-! ## clearCodes -/

section

variable (s : State)

@[simp] theorem clearCodes_params : (clearCodes s).params = s.params := rfl
@[simp] theorem clearCodes_cmdWord : (clearCodes s).cmdWord = s.cmdWord := rfl
@[simp] theorem clearCodes_busy : (clearCodes s).busy = s.busy := rfl
@[simp] theorem clearCodes_fault : (clearCodes s).fault = s.fault := rfl
@[simp] theorem clearCodes_cmdIgn : (clearCodes s).cmdIgn = s.cmdIgn := rfl
@[simp] theorem clearCodes_phase : (clearCodes s).phase = s.phase := rfl
@[simp] theorem clearCodes_faultCode : (clearCodes s).faultCode = s.faultCode := rfl
@[simp] theorem clearCodes_faultInfo : (clearCodes s).faultInfo = s.faultInfo := rfl
@[simp] theorem clearCodes_intEn : (clearCodes s).intEn = s.intEn := rfl
@[simp] theorem clearCodes_intStatus : (clearCodes s).intStatus = s.intStatus := rfl
@[simp] theorem clearCodes_index : (clearCodes s).index = s.index := rfl
@[simp] theorem clearCodes_progress : (clearCodes s).progress = s.progress := rfl
@[simp] theorem clearCodes_total : (clearCodes s).total = s.total := rfl
@[simp] theorem clearCodes_payloadCount : (clearCodes s).payloadCount = s.payloadCount := rfl
@[simp] theorem clearCodes_hist : (clearCodes s).hist = s.hist := rfl
@[simp] theorem clearCodes_codeLen : (clearCodes s).codeLen = Vector.replicate 256 0#5 := rfl
@[simp] theorem clearCodes_codeVal : (clearCodes s).codeVal = Vector.replicate 256 0#31 := rfl
@[simp] theorem clearCodes_numEntries : (clearCodes s).numEntries = 0#9 := rfl
@[simp] theorem clearCodes_dtab : (clearCodes s).dtab = s.dtab := rfl
@[simp] theorem clearCodes_dnum : (clearCodes s).dnum = s.dnum := rfl
@[simp] theorem clearCodes_bwBuf : (clearCodes s).bwBuf = s.bwBuf := rfl
@[simp] theorem clearCodes_bwCnt : (clearCodes s).bwCnt = s.bwCnt := rfl
@[simp] theorem clearCodes_brBuf : (clearCodes s).brBuf = s.brBuf := rfl
@[simp] theorem clearCodes_brCnt : (clearCodes s).brCnt = s.brCnt := rfl
@[simp] theorem clearCodes_node : (clearCodes s).node = s.node := rfl
@[simp] theorem clearCodes_queue : (clearCodes s).queue = s.queue := rfl
@[simp] theorem clearCodes_nextSeq : (clearCodes s).nextSeq = s.nextSeq := rfl
@[simp] theorem clearCodes_acc : (clearCodes s).acc = s.acc := rfl
@[simp] theorem clearCodes_accLen : (clearCodes s).accLen = s.accLen := rfl
@[simp] theorem clearCodes_seq : (clearCodes s).seq = s.seq := rfl
@[simp] theorem clearCodes_inFifo : (clearCodes s).inFifo = s.inFifo := rfl
@[simp] theorem clearCodes_inOvf : (clearCodes s).inOvf = s.inOvf := rfl
@[simp] theorem clearCodes_outFifo : (clearCodes s).outFifo = s.outFifo := rfl
@[simp] theorem clearCodes_program : (clearCodes s).program = s.program := rfl
@[simp] theorem clearCodes_reads : (clearCodes s).reads = s.reads := rfl
@[simp] theorem clearCodes_turns : (clearCodes s).turns = s.turns := rfl
@[simp] theorem clearCodes_draws : (clearCodes s).draws = s.draws := rfl

end

end Sys2Proof.Machine
end

