-- ==== Sys2Proof/Laws/Ops.lean ====
section
/-! SUPPORT. One lemma per shared operation: what it can do, for proofs to cite. -/

namespace Sys2Proof.Machine

open Sys2Proof

/-! ## Internal tables -/

@[simp] theorem tabGet_tabSet_self {α : Type} (t : Vector α 256) (i : Byte) (v : α) :
    tabGet (tabSet t i v) i = v := by
  simp [tabGet, tabSet]

theorem tabGet_tabSet_ne {α : Type} (t : Vector α 256) {i j : Byte} (v : α) (h : i ≠ j) :
    tabGet (tabSet t i v) j = tabGet t j := by
  have hne : i.toNat ≠ j.toNat := fun e => h (BitVec.eq_of_toNat_eq e)
  simp [tabGet, tabSet, hne]

@[simp] theorem tabGet_replicate {α : Type} (v : α) (i : Byte) :
    tabGet (Vector.replicate 256 v) i = v := by
  simp [tabGet]

theorem nodeGet_nodeSet_self (t : Vector Node 511) {i : NodeIx} (v : Node) (h : i.toNat < 511) :
    nodeGet (nodeSet t i v) i = v := by
  simp [nodeGet, nodeSet, h]

theorem nodeGet_nodeSet_ne (t : Vector Node 511) {i j : NodeIx} (v : Node) (h : i ≠ j) :
    nodeGet (nodeSet t i v) j = nodeGet t j := by
  have hne : i.toNat ≠ j.toNat := fun e => h (BitVec.eq_of_toNat_eq e)
  unfold nodeGet nodeSet
  split
  · split <;> simp [hne]
  · rfl

/-! ## FIFOs -/

theorem inPop_some {s s' : State} {x : Token} (h : inPop s = some (x, s')) :
    s.inFifo = x :: s'.inFifo ∧ s' = { s with inFifo := s'.inFifo } := by
  unfold inPop at h
  split at h <;> simp_all
  obtain ⟨rfl, rfl⟩ := h
  simp

theorem inPop_none {s : State} : inPop s = none ↔ s.inFifo = [] := by
  unfold inPop
  split <;> simp_all

theorem pushToken_cases (x : Token) (s : State) :
    (s.inFifo.length < s.params.inDepth.toNat ∧
      pushToken x s = { s with inFifo := s.inFifo ++ [x] }) ∨
    (s.params.inDepth.toNat ≤ s.inFifo.length ∧ pushToken x s = { s with inOvf := true }) := by
  unfold pushToken inRoom
  by_cases h : s.inFifo.length < s.params.inDepth.toNat
  · exact .inl ⟨h, by simp [h]⟩
  · exact .inr ⟨Nat.le_of_not_lt h, by simp [h]⟩

/-! ## Bit adapters -/

theorem writerStep_full (buf : Byte) (b : Bool) :
    writerStep buf 7#3 b = (0#8, 0#3, some (buf.shiftConcat b)) := by
  simp [writerStep]

theorem writerStep_open (buf : Byte) {cnt : BitVec 3} (b : Bool) (h : cnt ≠ 7#3) :
    writerStep buf cnt b = (buf.shiftConcat b, cnt + 1#3, none) := by
  simp [writerStep, h]

/-- Everything a bit step of BitRead can do. -/
theorem readBit_cases (s : State) :
    (s.brCnt = 0#4 ∧ s.inFifo = [] ∧ readBit s = .wait) ∨
    (∃ rest, s.brCnt = 0#4 ∧ s.inFifo = .eos :: rest ∧ readBit s = .eos { s with inFifo := rest }) ∨
    (∃ b rest, s.brCnt = 0#4 ∧ s.inFifo = .byte b :: rest ∧
      readBit s = .bit (readerBit b 8#4) { s with inFifo := rest, brBuf := b, brCnt := 7#4 }) ∨
    (s.brCnt ≠ 0#4 ∧
      readBit s = .bit (readerBit s.brBuf s.brCnt) { s with brCnt := s.brCnt - 1#4 }) := by
  unfold readBit
  by_cases h : s.brCnt = 0#4
  · rcases hf : s.inFifo with _ | ⟨_ | _, rest⟩ <;> simp [h, inPop, hf]
  · simp [h]

/-! ## The sequencer -/

/-- Everything an acceptance can do (R110). -/
theorem offer_cases (c : Instr) (s : State) :
    (ignores (encode c) s = true ∧ offer c s = ignoreWord s) ∨
    (ignores (encode c) s = false ∧ phaseOk c s.phase = true ∧
      offer c s = goto (startOf c) (acceptWord (encode c) s)) ∨
    (ignores (encode c) s = false ∧ phaseOk c s.phase = false ∧
      offer c s =
        raiseFault .sequence (sequenceInfo (encode c) s.phase) (acceptWord (encode c) s)) := by
  unfold offer
  cases ignores (encode c) s <;> cases phaseOk c s.phase <;> simp

theorem ignores_iff (w : Word) (s : State) :
    ignores w s = true ↔ s.busy = true ∨ (s.fault = true ∧ w ≠ encode .clear) := by
  simp [ignores]

/-- exec of a command that does not run is its acceptance. -/
theorem exec_eq_offer (i : Instr) (s : State) (h : s.busy = false ∨ runningOf s.seq ≠ some i) :
    exec i s = .next (offer i s) := by
  cases i <;> simp only [exec, execClear, execCount, execBuild, execWriteHeader, execEncode,
    execReadHeader, execDecode] <;> split <;> simp_all [runningOf]

theorem exec_clear_running {s : State} (hb : s.busy = true) (hs : s.seq = .clear) :
    exec .clear s = .next (clearEvent s) := by
  simp [exec, execClear, hb, hs]

theorem exec_count_running {s : State} {p : CountPt} (hb : s.busy = true) (hs : s.seq = .count p) :
    exec .count s = .next (countEvent p s) := by
  simp [exec, execCount, hb, hs]

theorem exec_build_running {s : State} {p : BuildPt} (hb : s.busy = true) (hs : s.seq = .build p) :
    exec .build s = buildEvent p s := by
  simp [exec, execBuild, hb, hs]

theorem exec_writeHeader_running {s : State} {p : WritePt} (hb : s.busy = true)
    (hs : s.seq = .writeHeader p) : exec .writeHeader s = .next (writeEvent p s) := by
  simp [exec, execWriteHeader, hb, hs]

theorem exec_encode_running {s : State} {p : EncodePt} (hb : s.busy = true)
    (hs : s.seq = .encode p) : exec .encode s = .next (encodeEvent p s) := by
  simp [exec, execEncode, hb, hs]

theorem exec_readHeader_running {s : State} {p : ReadPt} (hb : s.busy = true)
    (hs : s.seq = .readHeader p) : exec .readHeader s = .next (readEvent p s) := by
  simp [exec, execReadHeader, hb, hs]

theorem exec_decode_running {s : State} {p : DecodePt} (hb : s.busy = true)
    (hs : s.seq = .decode p) : exec .decode s = .next (decodeEvent p s) := by
  simp [exec, execDecode, hb, hs]

/-- Everything exec can do: an acceptance, or one event of the running command. -/
theorem exec_cases (i : Instr) (s : State) :
    exec i s = .next (offer i s) ∨ (s.busy = true ∧ runningOf s.seq = some i) := by
  by_cases h : s.busy = false ∨ runningOf s.seq ≠ some i
  · exact .inl (exec_eq_offer i s h)
  · right
    simpa using h

/-! ## BUILD's queue -/

theorem minStep_eq_or (t : Vector Node 511) (m y : NodeIx) : minStep t m y = m ∨ minStep t m y = y := by
  unfold minStep
  split <;> simp

theorem foldl_minStep_mem (t : Vector Node 511) (xs : List NodeIx) (x : NodeIx) :
    xs.foldl (minStep t) x ∈ x :: xs := by
  induction xs generalizing x with
  | nil => simp
  | cons y ys ih =>
    have h := ih (minStep t x y)
    simp only [List.foldl_cons, List.mem_cons] at h ⊢
    rcases minStep_eq_or t x y with e | e <;> rw [e] at h ⊢ <;> tauto

/-- What extractMin answers is a member of the queue, and the rest is the queue without it. -/
theorem extractMin_some {t : Vector Node 511} {q q' : List NodeIx} {m : NodeIx}
    (h : extractMin t q = some (m, q')) : m ∈ q ∧ q' = q.erase m := by
  unfold extractMin at h
  split at h
  · cases h
  · simp only [Option.some.injEq, Prod.mk.injEq] at h
    obtain ⟨rfl, rfl⟩ := h
    exact ⟨foldl_minStep_mem t _ _, rfl⟩

theorem extractMin_none {t : Vector Node 511} {q : List NodeIx} : extractMin t q = none ↔ q = [] := by
  unfold extractMin
  split <;> simp

/-- Two removals take two elements off the queue. -/
theorem extractTwo_some {t : Vector Node 511} {q q' : List NodeIx} {r l : NodeIx}
    (h : extractTwo t q = some (r, l, q')) :
    r ∈ q ∧ l ∈ q.erase r ∧ q' = (q.erase r).erase l ∧ q'.length + 2 = q.length := by
  unfold extractTwo at h
  split at h
  · cases h
  · rename_i r0 q1 h1
    split at h
    · cases h
    · rename_i l0 q2 h2
      simp only [Option.some.injEq, Prod.mk.injEq] at h
      obtain ⟨rfl, rfl, rfl⟩ := h
      obtain ⟨hr, rfl⟩ := extractMin_some h1
      obtain ⟨hl, rfl⟩ := extractMin_some h2
      refine ⟨hr, hl, rfl, ?_⟩
      have e1 := List.length_erase_of_mem hr
      have e2 := List.length_erase_of_mem hl
      have p1 := List.length_pos_of_mem hr
      have p2 := List.length_pos_of_mem hl
      omega

/-- Everything one pass of BUILD's loop can do. -/
theorem mergeEvent_cases (s : State) :
    (extractTwo s.node s.queue = none ∧ mergeEvent s = .next (goto (.build .flatten) s)) ∨
    (∃ r l q, extractTwo s.node s.queue = some (r, l, q) ∧ s.nextSeq.toNat < 511 ∧
      mergeEvent s = .next (mergeInto r l q s)) ∨
    (∃ r l q, extractTwo s.node s.queue = some (r, l, q) ∧ 511 ≤ s.nextSeq.toNat ∧
      mergeEvent s = .fault .nodeStoreFull) := by
  unfold mergeEvent
  rcases h : extractTwo s.node s.queue with _ | ⟨r, l, q⟩
  · simp
  · by_cases hn : s.nextSeq.toNat < 511
    · simp [hn]
    · simp [hn]; omega

/-! ## Host accesses -/

@[simp] theorem regAt_regOffset (r : Reg) : regAt (regOffset r) = some r := by
  cases r <;> rfl

theorem regOffset_lt (r : Reg) : regOffset r < 256 := by
  cases r <;> decide

theorem regOffset_aligned (r : Reg) : regOffset r % 4 = 0 := by
  cases r <;> rfl

/-- A named register's access is a supported access, whatever the base. -/
theorem accessRefusal_regAccess (p : Params) (r : Reg) (op : BusOp) :
    accessRefusal p (regAccess p r op) = none := by
  have h1 := regOffset_lt r
  have h2 := regOffset_aligned r
  unfold accessRefusal regAccess
  simp [h2]
  omega

/-- The host's write of v to register r (R86 `wr`). -/
theorem hostStep_wr {s : State} {r : Reg} {v : Word} {rest : List HostLine}
    (h : s.program = .wr r v :: rest) : hostStep s = writeReg r v { s with program := rest } := by
  unfold hostStep
  rw [h]
  simp only [lineAccess, performAccess, accessRefusal_regAccess, afterWrite]
  simp [regAccess, writeOffset]

/-- The host's read of register r (R86 `rd`). -/
theorem hostStep_rd {s : State} {r : Reg} {rest : List HostLine} (h : s.program = .rd r :: rest) :
    hostStep s =
      .next { (readReg r s).2 with
        program := rest, reads := (readReg r s).2.reads ++ [(regOffset r, (readReg r s).1)] } := by
  unfold hostStep
  rw [h]
  simp only [lineAccess, performAccess, accessRefusal_regAccess]
  simp [regAccess, readOffset, afterReadOf]

/-- A stream line at its STATUS read (R87). -/
theorem hostStep_stream_status {s : State} {cmds : List Instr} {ts : List Token} {rest : List HostLine}
    (h : s.program = .stream cmds ts .status :: rest) :
    hostStep s = .next { s with
      program := afterStatus (regValue .status s) cmds ts ++ rest
      reads := s.reads ++ [(regOffset .status, regValue .status s)] } := by
  unfold hostStep
  rw [h]
  simp only [lineAccess, streamAccess, performAccess, accessRefusal_regAccess]
  simp [regAccess, readOffset, afterReadOf, readReg, busyMask]

/-- A stream line at its FIFO_STATUS read (R87, R270). -/
theorem hostStep_stream_fifo {s : State} {cmds : List Instr} {ts : List Token} {rest : List HostLine}
    (h : s.program = .stream cmds ts .fifo :: rest) :
    hostStep s = .next { s with
      program := afterFifo (regValue .fifoStatus s) cmds ts ++ rest
      reads := s.reads ++ [(regOffset .fifoStatus, regValue .fifoStatus s)] } := by
  unfold hostStep
  rw [h]
  simp only [lineAccess, streamAccess, performAccess, accessRefusal_regAccess]
  simp [regAccess, readOffset, afterReadOf, readReg, busyMask]

/-- A stream line at its OUT_DATA read (R87, R130). -/
theorem hostStep_stream_pop {s : State} {cmds : List Instr} {ts : List Token} {x : Option Token}
    {rest : List HostLine} (h : s.program = .stream cmds ts (.pop x) :: rest) :
    hostStep s = .next { s with
      outFifo := s.outFifo.tail
      program := .stream cmds ts (x.elim .status .push) :: rest
      reads := s.reads ++ [(regOffset .outData, regValue .outData s)] } := by
  unfold hostStep
  rw [h]
  simp only [lineAccess, streamAccess, performAccess, accessRefusal_regAccess]
  cases x <;> simp [regAccess, readOffset, afterReadOf, readReg, busyMask]

/-- A stream line at the push of a token (R87, R122, R123). -/
theorem hostStep_stream_push {s : State} {cmds : List Instr} {ts : List Token} {x : Token}
    {rest : List HostLine} (h : s.program = .stream cmds ts (.push x) :: rest) :
    hostStep s = .next (pushToken x { s with program := .stream cmds ts .status :: rest }) := by
  unfold hostStep
  rw [h]
  cases x <;>
    simp only [lineAccess, streamAccess, tokenAccess, performAccess, accessRefusal_regAccess, afterWrite]
      <;> simp [regAccess, writeOffset, writeReg, writeFifoCtrl]

/-- A stream line at the CMD write of its next command (R87). -/
theorem hostStep_stream_issue {s : State} {i : Instr} {cmds : List Instr} {ts : List Token}
    {rest : List HostLine} (h : s.program = .stream (i :: cmds) ts .issue :: rest) :
    hostStep s = writeCmd (encode i) { s with program := .stream cmds ts .status :: rest } := by
  unfold hostStep
  rw [h]
  simp only [lineAccess, streamAccess, List.head?_cons, Option.map_some, performAccess,
    accessRefusal_regAccess, afterWrite]
  simp [regAccess, writeOffset, writeReg]

/-- Where no command runs, the host's next line is the next event. -/
theorem step_of_not_busy {s : State} (hb : s.busy = false) (hp : s.program ≠ []) :
    step s = hostStep s := by
  have h1 : hostReady s = true := by
    cases h : s.program <;> simp_all [hostReady]
  have h2 : engineReady s = false := by simp [engineReady, hb]
  simp [step, interleave, h1, h2]

/-- Where the host has nothing to do, the next event is the engine's. -/
theorem step_of_no_program {s : State} (hp : s.program = []) (he : engineReady s = true) :
    step s = engineStep s := by
  have h1 : hostReady s = false := by simp [hostReady, hp]
  simp [step, interleave, h1, he]

/-- Everything a step can be: nothing, an event of the host, or an event of the engine, in a state
that differs from s in the model's choices alone. -/
theorem step_cases (s : State) :
    (hostReady s = false ∧ engineReady s = false ∧ step s = .next s) ∨
    (hostReady s = true ∧ ∃ ts n, step s = hostStep { s with turns := ts, draws := n }) ∨
    (engineReady s = true ∧ ∃ ts n, step s = engineStep { s with turns := ts, draws := n }) := by
  unfold step interleave
  cases hh : hostReady s <;> cases he : engineReady s
  · simp
  · exact .inr (.inr ⟨rfl, s.turns, s.draws, rfl⟩)
  · exact .inr (.inl ⟨rfl, s.turns, s.draws, rfl⟩)
  · rcases ht : s.turns with _ | ⟨_ | _, ts⟩
    · by_cases hc : Config.freeTurn s.draws = true
      · exact .inr (.inl ⟨rfl, [], s.draws + 1, by simp [hc, ← ht]⟩)
      · exact .inr (.inr ⟨rfl, [], s.draws + 1, by simp [hc, ← ht]⟩)
    · exact .inr (.inl ⟨rfl, ts, s.draws, by simp⟩)
    · exact .inr (.inr ⟨rfl, ts, s.draws, by simp⟩)

end Sys2Proof.Machine
end

