-- ==== Sys2Proof/Laws/PerInstr.lean ====
section
/-! SUPPORT. Statements about every instruction as syntax, one lemma per constructor. -/

/-- The command is well-formed, its word is a word of the table (MBZ zero, a defined opcode; R80, R81),
and decoding its word gives the command (R82). -/
def Sys2Proof.Laws.RoundTrip.Statement (i : Sys2Proof.Instr) : Prop :=
  i.wellFormed = true ∧ Sys2Proof.wordWellFormed (Sys2Proof.encode i) = true ∧
    Sys2Proof.decode (Sys2Proof.encode i) = some i

theorem Sys2Proof.Laws.RoundTrip.clear : Sys2Proof.Laws.RoundTrip.Statement .clear := by
  unfold Sys2Proof.Laws.RoundTrip.Statement; decide

theorem Sys2Proof.Laws.RoundTrip.count : Sys2Proof.Laws.RoundTrip.Statement .count := by
  unfold Sys2Proof.Laws.RoundTrip.Statement; decide

theorem Sys2Proof.Laws.RoundTrip.build : Sys2Proof.Laws.RoundTrip.Statement .build := by
  unfold Sys2Proof.Laws.RoundTrip.Statement; decide

theorem Sys2Proof.Laws.RoundTrip.writeHeader : Sys2Proof.Laws.RoundTrip.Statement .writeHeader := by
  unfold Sys2Proof.Laws.RoundTrip.Statement; decide

theorem Sys2Proof.Laws.RoundTrip.encode : Sys2Proof.Laws.RoundTrip.Statement .encode := by
  unfold Sys2Proof.Laws.RoundTrip.Statement; decide

theorem Sys2Proof.Laws.RoundTrip.readHeader : Sys2Proof.Laws.RoundTrip.Statement .readHeader := by
  unfold Sys2Proof.Laws.RoundTrip.Statement; decide

theorem Sys2Proof.Laws.RoundTrip.decode : Sys2Proof.Laws.RoundTrip.Statement .decode := by
  unfold Sys2Proof.Laws.RoundTrip.Statement; decide
end

