-- ==== Sys2Proof/Tests/Slice0.lean ====
section
/-! SUPPORT. Tests: well-formedness, decoding of words written out, one-step tests with results from
spec/95_test_vectors.md, and one witness for each statement with hypotheses (a state and operands that
meet them together, clause by clause). -/

namespace Sys2Proof.Tests

open Sys2Proof Sys2Proof.Machine

/-! ## Helpers -/

/-- The reset state with a command at a point of its run. -/
def run (q : Seq) : State := { State.reset with busy := true, seq := q }

/-- The reset state with a PHASE. -/
def inPhase (p : Phase) : State := { State.reset with phase := p }

/-- The reset state with a host program. -/
def prog (ls : List HostLine) : State := { State.reset with program := ls }

/-- A part of a next state. -/
def part {α : Type} (f : State → α) : Host.Outcome State Fault Refusal → Option α
  | .next s => some (f s)
  | _ => none

/-- FIFO depth 1 for the output, and one byte in it: full. -/
def full (s : State) : State :=
  { s with params := { base := 0, inDepth := 1, outDepth := 1 }, outFifo := [0xAA#8] }

/-- HIST of V53: 0x41 twice, 0x42 and 0x43 once. -/
def hist53 : Vector Word 256 :=
  tabSet (tabSet (tabSet (Vector.replicate 256 0#32) 0x41#8 2#32) 0x42#8 1#32) 0x43#8 1#32

/-- A leaf of the node store. -/
def leaf (w : Word) (q : NodeIx) (b : Byte) : Node :=
  { weight := w, seq := q, leaf := true, sym := b, left := 0, right := 0 }

/-- A merged node. -/
def join (w : Word) (q l r : NodeIx) : Node :=
  { weight := w, seq := q, leaf := false, sym := 0, left := l, right := r }

/-- The leaves of V53. -/
def nodes53 : Vector Node 511 :=
  nodeSet (nodeSet (nodeSet (Vector.replicate 511 Node.zero) 0 (leaf 2 0 0x41)) 1 (leaf 1 1 0x42))
    2 (leaf 1 2 0x43)

/-- V53 after MakeLeaves. -/
def merge53 : State :=
  { run (.build .merge) with hist := hist53, node := nodes53, queue := [0, 1, 2], nextSeq := 3 }

/-- V53 after its two merges. -/
def flat53 : State :=
  { run (.build .flatten) with
    hist := hist53
    node := nodeSet (nodeSet nodes53 3 (join 2 3 2 1)) 4 (join 4 4 3 0)
    queue := [4]
    nextSeq := 5 }

/-- A store whose node n has a leaf n steps to the left, and leaves of symbol 9 to the right. -/
def chainNodes : Nat → Vector Node 511
  | 0 => nodeSet (nodeSet (Vector.replicate 511 Node.zero) 0 (leaf 1 0 5)) 500 (leaf 1 500 9)
  | n + 1 => nodeSet (chainNodes n) (BitVec.ofNat 9 (n + 1)) (join 2 0 (BitVec.ofNat 9 n) 500)

/-- BUILD's last event over a tree of depth 32. -/
def flatDeep : State :=
  { run (.build .flatten) with node := chainNodes 32, queue := [32] }

/-- The decoder table of V90 without the second entry: (0x41, 1, 0). -/
def dtabOne : Vector DtabEntry 256 :=
  tabSet (Vector.replicate 256 DtabEntry.zero) 0#8 { valid := true, sym := 0x41, len := 1, val := 0 }

/-- The entries of V54: 0x00 = (1, 0), 0xFF = (1, 1). -/
def entries54 : List (Byte × BitVec 5 × BitVec 31) := [(0x00, 1, 0), (0xFF, 1, 1)]

/-- The code table of V54. -/
def codes54 (s : State) : State :=
  { s with
    codeLen := tabSet (tabSet (Vector.replicate 256 0#5) 0x00#8 1#5) 0xFF#8 1#5
    codeVal := tabSet (tabSet (Vector.replicate 256 0#31) 0x00#8 0#31) 0xFF#8 1#31
    numEntries := 2 }

/-- The decoder table of V54. -/
def dtab54 (s : State) : State :=
  { s with
    dtab := tabSet (tabSet (Vector.replicate 256 DtabEntry.zero) 0#8
      { valid := true, sym := 0x00, len := 1, val := 0 }) 1#8
      { valid := true, sym := 0xFF, len := 1, val := 1 }
    dnum := 2 }

/-! ## Well-formedness: one term each check refuses -/

/-- MBZ not zero (R80; spec/95 2.1, word 0x102). -/
theorem smoke_word_mbz : wordMbzOk 0x00000102#32 = false ∧ wordOpcodeOk 0x00000102#32 = true ∧
    wordWellFormed 0x00000102#32 = false := by decide

/-- OPCODE 0 and 8 are not in R81's table. -/
theorem smoke_word_opcode : wordOpcodeOk 0x00000000#32 = false ∧ wordOpcodeOk 0x00000008#32 = false ∧
    wordMbzOk 0x00000008#32 = true ∧ wordWellFormed 0x00000008#32 = false := by decide

/-- HUFF_BASE not 256-byte-aligned (R8). -/
theorem smoke_params_base : ({ base := 4, inDepth := 1, outDepth := 1 } : Params).wellFormed = false := by
  decide

/-- IN_FIFO_DEPTH 0 (R8). -/
theorem smoke_params_inDepth :
    ({ base := 0, inDepth := 0, outDepth := 1 } : Params).wellFormed = false := by decide

/-- OUT_FIFO_DEPTH 0 (R8). -/
theorem smoke_params_outDepth :
    ({ base := 0, inDepth := 1, outDepth := 0 } : Params).wellFormed = false := by decide

/-- Every command is well-formed (R80: no operand fields), as are the least and greatest depths. -/
theorem smoke_accepted : Instr.wellFormed .decode = true ∧ wordWellFormed 0x00000007#32 = true ∧
    ({ base := 256, inDepth := 1, outDepth := 4095 } : Params).wellFormed = true := by decide

/-! ## Decoding: MBZ [31:8], then OPCODE [7:0], bit by bit (R80, R81, R82) -/

theorem test_decode_control :
    decode 0b000000000000000000000000_00000001#32 = some .clear ∧
    decode 0b000000000000000000000000_00000010#32 = some .count ∧
    decode 0b000000000000000000000000_00000011#32 = some .build := by decide

theorem test_decode_container :
    decode 0b000000000000000000000000_00000100#32 = some .writeHeader ∧
    decode 0b000000000000000000000000_00000101#32 = some .encode ∧
    decode 0b000000000000000000000000_00000110#32 = some .readHeader ∧
    decode 0b000000000000000000000000_00000111#32 = some .decode := by decide

/-- spec/95 2.1: the illegal words. -/
theorem test_decode_illegal :
    decode 0#32 = none ∧ decode 8#32 = none ∧ decode 0xFF#32 = none ∧ decode 0x102#32 = none ∧
    decode 0x80000001#32 = none ∧ decode 0xFFFFFFFF#32 = none := by decide

/-! ## The commands, one step each -/

/-- R116, R239: CLEAR leaves FAULT but not FAULT_IP. -/
theorem test_clear_fault :
    part (fun t => (t.fault, t.faultCode, t.busy, t.phase, t.intStatus))
      (exec .clear { run .clear with fault := true, faultCode := .sequence, intStatus := 2 }) =
    some (false, .none, false, .idle, 3) := by decide

/-- spec/95 2.2: CLEAR is accepted with FAULT = 1, and STATUS then reads BUSY | FAULT | code 2. -/
theorem test_clear_accepted :
    part (fun t => (t.busy, statusWord t))
      (exec .clear { State.reset with fault := true, faultCode := .sequence }) = some (true, 0x203) := by
  decide

/-- V45: one byte counted. -/
theorem test_count_byte :
    part (fun t => (tabGet t.hist 0x61, t.total, t.progress)) (exec .count (run (.count (.tally 0x61)))) =
    some (1, 1, 1) := by decide +kernel

/-- V44: the 2^32-th byte 0x5A overflows, STATUS 0x302. -/
theorem test_count_overflow :
    part (fun t => (t.faultInfo, statusWord t, t.total))
      (exec .count { run (.count (.tally 0x5A)) with total := 0xFFFFFFFF }) =
    some (0x5A, 0x302, 0xFFFFFFFF) := by decide

/-- V51: BUILD of an empty histogram makes the dummy entry. -/
theorem test_build_empty :
    part (fun t => (tabGet t.codeLen 0, tabGet t.codeVal 0, t.numEntries, t.progress))
      (exec .build (run (.build .start))) = some (1, 0, 1, 0) := by decide +kernel

/-- V53: the first merge removes B, then C: left = C, right = B, weight 2, seq 3. -/
theorem test_build_merge :
    part (fun t => (nodeGet t.node 3, t.queue, t.progress)) (exec .build merge53) =
    some (join 2 3 2 1, [0, 3], 1) := by decide +kernel

/-- V22, Scenario C: 256 entries are written as the byte 0. -/
theorem test_writeHeader_256 :
    fieldValue .numEntries { run .idle with numEntries := 256 } = 0 := by decide

/-- V60 with OUT_FIFO_DEPTH 4 (here 1): the engine waits in OutPush, STATUS 0x2021. -/
theorem test_writeHeader_waits :
    statusWord { full (run (.writeHeader (.bits (.magic 0) 1))) with bwCnt := 7, phase := .built } =
    0x2021 := by decide

/-- V75: at PROGRESS = PAYLOAD_COUNT the count check comes before the symbol check, STATUS 0x632. -/
theorem test_encode_tooMany :
    part (fun t => (t.faultInfo, statusWord t))
      (exec .encode { run (.encode (.sym 0x7A)) with
        progress := 11, payloadCount := 11, phase := .headerWritten }) = some (11, 0x632) := by decide

/-- V62 then ENCODE of four 0x41: ten held bits end as 10 00; the last two, 00, are flushed as 00; here
V11's held bit 1 is flushed as 0x80. -/
theorem test_encode_flush :
    part (fun t => (t.outFifo, t.bwCnt)) (exec .encode { run (.encode .flush) with bwBuf := 1, bwCnt := 1 }) =
    some ([0x80], 0) := by decide

/-- V82: "HUFFMAN2" is BAD_MAGIC 7, STATUS 0x702. -/
theorem test_readHeader_badMagic :
    part (fun t => (t.faultInfo, statusWord t))
      (exec .readHeader (run (.readHeader
        (.bits (.magic [0x48, 0x55, 0x46, 0x46, 0x4D, 0x41, 0x4E]) 0 0x32)))) = some (7, 0x702) := by
  decide

/-- V88: (0x41, 1, 0) twice is DUPLICATE_CODE with j = 0, e = 1, STATUS 0xA02. -/
theorem test_readHeader_duplicate :
    part (fun t => (t.faultInfo, statusWord t, t.dnum))
      (exec .readHeader { run (.readHeader (.bits (.val 1 2 0x41 1) 0 0)) with dtab := dtabOne, dnum := 1 }) =
    some (0x00000001, 0xA02, 1) := by decide +kernel

/-- V105: 31 bits without a match are NO_MATCH, STATUS 0xB42. -/
theorem test_decode_noMatch :
    part (fun t => (t.faultInfo, statusWord t))
      (exec .decode { run (.decode .look) with
        dtab := dtabOne, dnum := 1, acc := 0x7FFFFFFF, accLen := 31, phase := .headerRead }) =
    some (0, 0xB42) := by decide +kernel

/-- V107: the bit 0 matches A at length 1. -/
theorem test_decode_match :
    part (fun t => t.seq)
      (exec .decode { run (.decode .look) with dtab := dtabOne, dnum := 1, accLen := 1 }) =
    some (.decode (.push 0x41)) := by decide +kernel

/-! ## Acceptance, registers, adapters -/

/-- spec/95 2.2: BUILD after reset: SEQUENCE, FAULT_INFO 3, STATUS 0x202; ENCODE in BUILT: 0x205, 0x222. -/
theorem test_sequence :
    part (fun t => (t.faultInfo, statusWord t)) (exec .build State.reset) = some (0x003, 0x202) ∧
    part (fun t => (t.faultInfo, statusWord t)) (exec .encode (inPhase .built)) = some (0x205, 0x222) := by
  decide

/-- spec/95 2.1: word 8 after reset is ILLEGAL_CMD, STATUS 0x102, and CMD reads it back. -/
theorem test_illegal :
    part (fun t => (t.faultInfo, statusWord t, regValue .cmd t)) (step (State.reset.withFetchWord 32 8)) =
    some (8, 0x102, 8) := by decide

/-- spec/95 2.2: BUILD written while COUNT waits: CMD_IGN, STATUS 0x1005. -/
theorem test_ignored :
    part statusWord (writeReg .cmd 3 { run (.count .pop) with cmdWord := 2 }) = some 0x1005 := by decide

/-- withFetchWord's word is what the next step runs, busy or not (R110). -/
theorem test_fetch : part (fun t => (t.busy, t.seq)) (step (State.reset.withFetchWord 32 2)) =
    some (true, .count .start) := by decide

/-- V121, V122, with IN_FIFO_DEPTH 1: a second push is dropped; IN_FLUSH then PUSH_EOS. -/
theorem test_fifo :
    part fifoStatusWord (writeReg .inData 0x05 { full State.reset with inFifo := [.byte 1], outFifo := [] }) =
      some 0x07000001 ∧
    part fifoStatusWord (writeReg .fifoCtrl 3 { State.reset with inFifo := [.byte 1], inOvf := true }) =
      some 0x02000001 := by decide

/-- R270: a stream line with a token left pushes only where IN_FULL = 0, and pops only where OUT_EMPTY = 0. -/
theorem test_stream_fifo :
    afterFifo 0x01000000 [] [.eos] = [.stream [] [.eos] (.pop none)] ∧
    afterFifo 0x03000000 [] [.eos] = [.stream [] [.eos] .status] ∧
    afterFifo 0x02000000 [] [.eos] = [.stream [] [] (.push .eos)] ∧
    afterFifo 0x00000000 [] [.eos] = [.stream [] [] (.pop (some .eos))] := by decide

/-- R34, R87: the drained bytes are the OUT_DATA reads with VALID = 1, not a STATUS read with bit 8 set. -/
theorem test_drainedBytes :
    drainedBytes { State.reset with reads := [(0x28, 0x148), (0x10, 0x142), (0x28, 0)] } = [0x48] := by decide

/-- V124, V125, V127. -/
theorem test_registers :
    part (regValue .intStatus) (writeReg .intStatus 1 { State.reset with intStatus := 3 }) = some 2 ∧
    part (regValue .index) (writeReg .index 0x1234 State.reset) = some 0x34 ∧
    part (regValue .id) (writeReg .id 0 State.reset) = some 0x48554646 := by decide

/-- V129's CONFIG with depth 64 (spec/95 2.11), and V128's reserved offsets. -/
theorem test_config : regValue .config State.reset = 0x1F040040 ∧
    (readOffset 0x5C State.reset).1 = 0 ∧ (readOffset 0xFC State.reset).1 = 0 := by decide

/-- V10 to V13, V15: bytes pushed and flushed. -/
theorem test_bitWrite :
    writeAndFlush [(0xA5, 8)] = [0xA5] ∧ writeAndFlush [(1, 1)] = [0x80] ∧
    writeAndFlush [(5, 3), (31, 5)] = [0xBF] ∧ writeAndFlush [(3, 2), (0x1234, 16)] = [0xC4, 0x8D, 0x00] ∧
    writeAndFlush [(0x7FFFFFFF, 31), (0, 1)] = [0xFF, 0xFF, 0xFF, 0xFE] := by decide

/-- V13 and V16: values read, and BR_CNT after. -/
theorem test_bitRead :
    (readAll [2, 16] 0#8 0#4 [0xC4, 0x8D, 0x00]).map (fun x => (x.1, x.2.2.1)) = some ([3, 0x1234], 6) ∧
    (readAll [13, 3] 0#8 0#4 [0xFF, 0xF8]).map (fun x => (x.1, x.2.2.1)) = some ([0x1FFF, 0], 0) := by decide

/-- V3's container as the format says it. -/
theorem test_container :
    packed (headerBits [(0x41, 1, 0)] 4 ++ List.replicate 4 false) =
    [0x48, 0x55, 0x46, 0x46, 0x4D, 0x41, 0x4E, 0x31, 0x01, 0x41, 0x08, 0x00, 0x00, 0x00, 0x10, 0x00] := by
  decide +kernel

/-! ## Witnesses: for each statement with hypotheses, a state and operands that meet them together -/

theorem witness_StepOffersDecodedCommand :
    (∃ s w rest i, State.busy s = false ∧ (s.fault = false ∨ i = .clear) ∧
      s.program = .wr .cmd w :: rest ∧ Sys2Proof.decode w = some i ∧ i.wellFormed = true) ∧
    (∃ (s : State) (rest : List HostLine) (i : Instr), s.busy = false ∧ (s.fault = false ∨ i = .clear) ∧
      s.program = .cmd i :: rest) ∧
    (∃ (s : State) (i : Instr), s.busy = false ∧ s.fault = true ∧ i = .clear) :=
  ⟨⟨prog [.wr .cmd 7, .wait], 7, [.wait], .decode, by decide⟩,
   ⟨prog [.cmd .count], [], .count, by decide⟩,
   ⟨{ State.reset with fault := true, faultCode := .sequence }, .clear, by decide⟩⟩

/-- Clause by clause: the engine alone, the engine's turn, the host's turn, waiting with and without a
host line; the waits at an empty input FIFO and at a full output FIFO. -/
theorem witness_StepRunsRunningCommand :
    (∃ (s : State) (i : Instr), s.busy = true ∧ runningOf s.seq = some i ∧ waitIn s = false ∧
      waitOut s = false ∧ s.program = []) ∧
    (∃ (s : State) (i : Instr) (ts : List Agent), s.busy = true ∧ runningOf s.seq = some i ∧
      waitIn s = false ∧ waitOut s = false ∧ s.program ≠ [] ∧ s.turns = .engine :: ts) ∧
    (∃ (s : State) (i : Instr) (ts : List Agent), s.busy = true ∧ runningOf s.seq = some i ∧
      waitIn s = false ∧ waitOut s = false ∧ s.program ≠ [] ∧ s.turns = .host :: ts) ∧
    (∃ (s : State) (i : Instr), s.busy = true ∧ runningOf s.seq = some i ∧ waitIn s = true ∧
      s.program ≠ []) ∧
    (∃ (s : State) (i : Instr), s.busy = true ∧ runningOf s.seq = some i ∧ waitOut s = true ∧
      s.program = []) :=
  ⟨⟨run .clear, .clear, by decide⟩,
   ⟨{ run .clear with program := [.wait], turns := [.engine] }, .clear, [], by decide⟩,
   ⟨{ run .clear with program := [.wait], turns := [.host] }, .clear, [], by decide⟩,
   ⟨{ run (.count .pop) with program := [.eos] }, .count, by decide⟩,
   ⟨full (run (.decode (.push 0x41))), .decode, by decide⟩⟩

/-- The least and the next illegal words, 0 and 8. -/
theorem witness_IllegalWordFaults :
    (∃ (s : State) (w : Word) (rest : List HostLine), s.busy = false ∧ s.fault = false ∧ w.toNat = 0 ∧
      s.program = .wr .cmd w :: rest) ∧
    (∃ (s : State) (w : Word) (rest : List HostLine), s.busy = false ∧ s.fault = false ∧ w.toNat = 8 ∧
      s.program = .wr .cmd w :: rest) :=
  ⟨⟨prog [.wr .cmd 0], 0, [], by decide⟩, ⟨prog [.wr .cmd 8], 8, [], by decide⟩⟩

theorem witness_IgnoredWordSetsOnlyCmdIgn :
    (∃ (s : State) (w : Word) (rest : List HostLine), s.busy = true ∧ s.program = .wr .cmd w :: rest) ∧
    (∃ (s : State) (w : Word) (rest : List HostLine), (s.fault = true ∧ w ≠ 1#32) ∧
      s.program = .wr .cmd w :: rest) ∧
    (∃ (s : State) (i : Instr), s.busy = true ∧ runningOf s.seq ≠ some i) ∧
    (∃ (s : State) (i : Instr), s.busy = false ∧ s.fault = true ∧ i ≠ .clear) :=
  ⟨⟨{ run .clear with program := [.wr .cmd 1] }, 1, [], by decide⟩,
   ⟨{ prog [.wr .cmd 0x80000001] with fault := true }, 0x80000001, [], by decide⟩,
   ⟨run (.count .pop), .build, by decide⟩,
   ⟨{ State.reset with fault := true }, .count, by decide⟩⟩

theorem witness_PhaseCheckFaultsSequence :
    ∀ i ∈ [Instr.build, .writeHeader, .encode, .decode], ∃ s : State, s.busy = false ∧ s.fault = false ∧
      ((i = .build ∧ s.phase ≠ .counted) ∨ (i = .writeHeader ∧ s.phase ≠ .built) ∨
        (i = .encode ∧ s.phase ≠ .headerWritten) ∨ (i = .decode ∧ s.phase ≠ .headerRead)) := by
  intro i hi
  exact ⟨State.reset, rfl, rfl, by revert i; decide⟩

theorem witness_AcceptanceStartsCommand :
    ∀ x ∈ [(Instr.clear, Phase.idle), (.count, .built), (.readHeader, .headerRead), (.build, .counted),
      (.writeHeader, .built), (.encode, .headerWritten), (.decode, .headerRead)],
    ∃ s : State, s.busy = false ∧ (s.fault = false ∨ x.1 = .clear) ∧
      (x.1 = .clear ∨ x.1 = .count ∨ x.1 = .readHeader ∨ (x.1 = .build ∧ s.phase = .counted) ∨
        (x.1 = .writeHeader ∧ s.phase = .built) ∨ (x.1 = .encode ∧ s.phase = .headerWritten) ∨
        (x.1 = .decode ∧ s.phase = .headerRead)) := by
  intro x hx
  refine ⟨inPhase x.2, rfl, .inl rfl, ?_⟩
  revert x
  decide

theorem witness_EngineIdleWhileNotBusy : ∃ s : State, s.busy = false ∧ s.program = [] :=
  ⟨State.reset, by decide⟩

theorem witness_ClearEmptiesAndLeavesFault : ∃ s : State, s.busy = true ∧ s.seq = .clear ∧ s.fault = true :=
  ⟨{ run .clear with fault := true, faultCode := .badMagic }, by decide⟩

theorem witness_CountCountsByte :
    (∃ (s : State) (b : Byte), s.busy = true ∧ s.seq = .count (.tally b) ∧ s.total = 0xFFFFFFFE#32 ∧
      s.total ≠ 0xFFFFFFFF#32) ∧
    (∃ (s : State) (b : Byte), s.busy = true ∧ s.seq = .count (.tally b) ∧ s.total = 0xFFFFFFFF#32) :=
  ⟨⟨{ run (.count (.tally 0x61)) with total := 0xFFFFFFFE }, 0x61, by decide⟩,
   ⟨{ run (.count (.tally 0x5A)) with total := 0xFFFFFFFF }, 0x5A, by decide⟩⟩

theorem witness_CountTakesTokens :
    (∃ s : State, s.busy = true ∧ s.seq = .count .start) ∧
    (∃ s : State, s.busy = true ∧ s.seq = .count .pop ∧ s.inFifo = []) ∧
    (∃ (s : State) (b : Byte) (rest : List Token), s.busy = true ∧ s.seq = .count .pop ∧
      s.inFifo = .byte b :: rest) ∧
    (∃ (s : State) (rest : List Token), s.busy = true ∧ s.seq = .count .pop ∧ s.inFifo = .eos :: rest) ∧
    (∃ s : State, s.busy = true ∧ s.seq = .count .done) :=
  ⟨⟨run (.count .start), by decide⟩, ⟨run (.count .pop), by decide⟩,
   ⟨{ run (.count .pop) with inFifo := [.byte 0x61, .eos] }, 0x61, [.eos], by decide⟩,
   ⟨{ run (.count .pop) with inFifo := [.eos] }, [], by decide⟩, ⟨run (.count .done), by decide⟩⟩

/-- V43's tokens: the stream, and tokens after its EOS. -/
theorem witness_CountRunCountsStream :
    ∃ (s : State) (bs : List Byte) (rest : List Token),
      s.busy = true ∧ s.seq = .count .start ∧ s.progress = 0#32 ∧
      s.inFifo = bs.map Token.byte ++ .eos :: rest ∧ bs.length < 2 ^ 32 :=
  ⟨{ run (.count .start) with inFifo := [.byte 0x41, .byte 0x41, .eos, .byte 0x41, .eos] },
   [0x41, 0x41], [.byte 0x41, .eos], by decide⟩

/-- The frames' hypothesis, a next state, for each command while it runs. -/
theorem witness_frames :
    (∃ s t : State, s.busy = true ∧ exec .clear s = .next t) ∧
    (∃ s t : State, s.busy = true ∧ s.seq ≠ .idle ∧ exec .count s = .next t) ∧
    (∃ s t : State, s.busy = true ∧ s.seq ≠ .idle ∧ exec .build s = .next t) ∧
    (∃ s t : State, s.busy = true ∧ s.seq ≠ .idle ∧ exec .writeHeader s = .next t) ∧
    (∃ s t : State, s.busy = true ∧ s.seq ≠ .idle ∧ exec .encode s = .next t) ∧
    (∃ s t : State, s.busy = true ∧ s.seq ≠ .idle ∧ exec .readHeader s = .next t) ∧
    (∃ s t : State, s.busy = true ∧ s.seq ≠ .idle ∧ exec .decode s = .next t) :=
  ⟨⟨run .clear, _, rfl, rfl⟩,
   ⟨run (.count .done), _, rfl, by decide, rfl⟩,
   ⟨run (.build .flatten), _, rfl, by decide, rfl⟩,
   ⟨run (.writeHeader .start), _, rfl, by decide, rfl⟩,
   ⟨run (.encode .pop), _, rfl, by decide, rfl⟩,
   ⟨run (.readHeader .start), _, rfl, by decide, rfl⟩,
   ⟨run (.decode .next), _, rfl, by decide, rfl⟩⟩

/-- V51 and V52: no symbol, and the one symbol 0x41. -/
theorem witness_BuildDegenerateInputs :
    (∃ (s : State) (b : Byte), s.busy = true ∧ s.seq = .build .start ∧
      (∀ c : Byte, tabGet s.hist c = 0#32) ∧ b = 0#8) ∧
    (∃ (s : State) (b : Byte), s.busy = true ∧ s.seq = .build .start ∧
      ∀ c : Byte, tabGet s.hist c ≠ 0#32 ↔ c = b) := by
  refine ⟨⟨run (.build .start), 0, rfl, rfl, fun c => ?_, rfl⟩,
    ⟨{ run (.build .start) with hist := tabSet (Vector.replicate 256 0#32) 0x41#8 4#32 }, 0x41, rfl, rfl,
      fun c => ?_⟩⟩
  · exact tabGet_replicate 0#32 c
  · by_cases h : c = 0x41#8
    · subst h; simp
    · simp [tabGet_tabSet_ne _ _ (Ne.symm h), h]

/-- V53's histogram. -/
theorem witness_BuildMakesLeaves :
    ∃ (s : State) (ss : List Byte), s.busy = true ∧ s.seq = .build .start ∧
      ss.Pairwise (fun a b => a.toNat < b.toNat) ∧ (∀ b : Byte, b ∈ ss ↔ tabGet s.hist b ≠ 0#32) ∧
      2 ≤ ss.length := by
  refine ⟨{ run (.build .start) with hist := hist53 }, [0x41#8, 0x42#8, 0x43#8], rfl, rfl, by decide, ?_,
    by decide⟩
  intro b
  simp only [hist53]
  by_cases h3 : b = 0x43#8
  · subst h3; simp
  by_cases h2 : b = 0x42#8
  · subst h2; simp [tabGet_tabSet_ne]
  by_cases h1 : b = 0x41#8
  · subst h1; simp [tabGet_tabSet_ne]
  · simp [tabGet_tabSet_ne _ _ (Ne.symm h1), tabGet_tabSet_ne _ _ (Ne.symm h2),
      tabGet_tabSet_ne _ _ (Ne.symm h3), h1, h2, h3]

/-- Three nodes; and, for the loop's end, two bounds: an empty queue and one node. -/
theorem witness_MergeJoinsTwoLightest :
    (∃ s : State, s.busy = true ∧ s.seq = .build .merge ∧ 2 ≤ s.queue.length ∧ s.nextSeq.toNat < 511) ∧
    (∃ s : State, s.busy = true ∧ s.seq = .build .merge ∧ s.queue.length = 1) ∧
    (∃ s : State, s.busy = true ∧ s.seq = .build .merge ∧ s.queue.length = 0) :=
  ⟨⟨merge53, by decide⟩, ⟨{ merge53 with queue := [4] }, by decide⟩, ⟨run (.build .merge), by decide⟩⟩

/-- The paths of V53: A = 1, C = 00, B = 01. -/
theorem test_codePaths : codePaths flat53 =
    [{ sym := 0x43, depth := 2, path := 0 }, { sym := 0x42, depth := 2, path := 1 },
      { sym := 0x41, depth := 1, path := 1 }] := by decide +kernel

theorem witness_BuildWritesPaths :
    (∃ (t : Vector Node 511) (n : NodeIx), (nodeGet t n).leaf = true) ∧
    (∃ (t : Vector Node 511) (n : NodeIx), (nodeGet t n).leaf = false) ∧
    (∃ (s : State) (root : NodeIx), s.queue = [root]) ∧
    ∃ s : State, s.busy = true ∧ s.seq = .build .flatten ∧ (∀ x ∈ codePaths s, x.depth ≤ 31) ∧
      (codePaths s).Pairwise (fun x y => x.sym ≠ y.sym) := by
  refine ⟨⟨nodes53, 0, by decide +kernel⟩, ⟨flat53.node, 4, by decide +kernel⟩, ⟨flat53, 4, rfl⟩, flat53, rfl,
    rfl, ?_, ?_⟩ <;> rw [test_codePaths] <;> decide

/-- A leaf of symbol 5 at depth 32, and one of symbol 9. -/
theorem witness_BuildFaultsTooLong :
    ∃ (s : State) (b : Byte), s.busy = true ∧ s.seq = .build .flatten ∧
      (∃ x ∈ codePaths s, x.sym = b ∧ 31 < x.depth) ∧
      (∀ x ∈ codePaths s, 31 < x.depth → b.toNat ≤ x.sym.toNat) :=
  ⟨flatDeep, 5, rfl, rfl, by decide +kernel, by decide +kernel⟩

theorem buildOk_flat53 : BuildOk flat53 :=
  ⟨fun h => (by cases h), fun _ => ⟨rfl, rfl, rfl⟩⟩

theorem witness_BuildTablePrefixFree :
    ∃ s t : State, s.busy = true ∧ s.seq = .build .flatten ∧ BuildOk s ∧ exec .build s = .next t :=
  ⟨flat53, flattenTree flat53, rfl, rfl, buildOk_flat53, exec_build_running (p := .flatten) rfl rfl⟩

/-- k = 3 (V53), and the least k, 0. -/
theorem witness_BuildRunGivesCompleteCode :
    (∃ (s : State) (k : Nat), s.busy = true ∧ s.seq = .build .start ∧ s.progress = 0#32 ∧ k = 3 ∧
      k = ((List.range 256).filter (fun i => tabGet s.hist (BitVec.ofNat 8 i) != 0#32)).length) ∧
    (∃ (s : State) (k : Nat), s.busy = true ∧ s.seq = .build .start ∧ s.progress = 0#32 ∧ k = 0 ∧
      k = ((List.range 256).filter (fun i => tabGet s.hist (BitVec.ofNat 8 i) != 0#32)).length) :=
  ⟨⟨{ run (.build .start) with hist := hist53 }, 3, by decide +kernel⟩,
   ⟨run (.build .start), 0, by decide +kernel⟩⟩

/-- Two states with the same HIST that differ in the node store. -/
theorem witness_BuildDependsOnlyOnHist :
    ∃ (s1 s2 t1 t2 : State) (n : Nat), s1.busy = true ∧ s2.busy = true ∧ s1.seq = .build .start ∧
      s2.seq = .build .start ∧ s1.hist = s2.hist ∧
      engineRun (n + 1) s1 = .next t1 ∧ engineRun (n + 1) s2 = .next t2 :=
  ⟨{ run (.build .start) with hist := hist53 }, { run (.build .start) with hist := hist53, node := nodes53 },
   _, _, 0, rfl, rfl, rfl, rfl, rfl, rfl, rfl⟩

/-- BW_CNT at 6, at 7 with room, and at 7 with a full output FIFO, in both commands. -/
theorem witness_BitWriteStep :
    (∃ (s : State) (f : WField) (n : Nat), s.busy = true ∧ s.seq = .writeHeader (.bits f (n + 1)) ∧
      s.bwCnt = 6#3 ∧ s.bwCnt ≠ 7#3) ∧
    (∃ (s : State) (f : WField) (n : Nat), s.busy = true ∧ s.seq = .writeHeader (.bits f (n + 1)) ∧
      s.bwCnt = 7#3 ∧ s.outFifo.length < s.params.outDepth.toNat) ∧
    (∃ (s : State) (f : WField) (n : Nat), s.busy = true ∧ s.seq = .writeHeader (.bits f (n + 1)) ∧
      s.bwCnt = 7#3 ∧ s.params.outDepth.toNat ≤ s.outFifo.length) ∧
    (∃ (s : State) (v : Word) (n : Nat), s.busy = true ∧ s.seq = .encode (.write v (n + 1)) ∧
      s.bwCnt = 6#3 ∧ s.bwCnt ≠ 7#3) ∧
    (∃ (s : State) (v : Word) (n : Nat), s.busy = true ∧ s.seq = .encode (.write v (n + 1)) ∧
      s.bwCnt = 7#3 ∧ s.outFifo.length < s.params.outDepth.toNat) ∧
    (∃ (s : State) (v : Word) (n : Nat), s.busy = true ∧ s.seq = .encode (.write v (n + 1)) ∧
      s.bwCnt = 7#3 ∧ s.params.outDepth.toNat ≤ s.outFifo.length) :=
  ⟨⟨{ run (.writeHeader (.bits .payload 32)) with bwCnt := 6 }, .payload, 31, by decide⟩,
   ⟨{ run (.writeHeader (.bits .payload 1)) with bwCnt := 7 }, .payload, 0, by decide⟩,
   ⟨{ full (run (.writeHeader (.bits .payload 1))) with bwCnt := 7 }, .payload, 0, by decide⟩,
   ⟨{ run (.encode (.write 1 31)) with bwCnt := 6 }, 1, 30, by decide⟩,
   ⟨{ run (.encode (.write 1 1)) with bwCnt := 7 }, 1, 0, by decide⟩,
   ⟨{ full (run (.encode (.write 1 1))) with bwCnt := 7 }, 1, 0, by decide⟩⟩

/-- Each point of WRITE_HEADER, at the bounds of the magic index and of the symbol. -/
theorem witness_WriteHeaderFieldOrder :
    (∃ s : State, s.busy = true ∧ s.seq = .writeHeader .start) ∧
    (∃ (s : State) (i : Nat), s.busy = true ∧ i = 6 ∧ i < 7 ∧ s.seq = .writeHeader (.bits (.magic i) 0)) ∧
    (∃ s : State, s.busy = true ∧ s.seq = .writeHeader (.bits (.magic 7) 0)) ∧
    (∃ s : State, s.busy = true ∧ s.seq = .writeHeader (.bits .numEntries 0)) ∧
    (∃ (s : State) (b : Byte), s.busy = true ∧ b = 0#8 ∧ s.seq = .writeHeader (.scan b.toNat) ∧
      tabGet s.codeLen b = 0#5) ∧
    (∃ (s : State) (b : Byte), s.busy = true ∧ b = 255#8 ∧ s.seq = .writeHeader (.scan b.toNat) ∧
      tabGet s.codeLen b ≠ 0#5) ∧
    (∃ (s : State) (b : Byte), s.busy = true ∧ s.seq = .writeHeader (.bits (.sym b) 0)) ∧
    (∃ (s : State) (b : Byte), s.busy = true ∧ s.seq = .writeHeader (.bits (.len b) 0)) ∧
    (∃ (s : State) (b : Byte), s.busy = true ∧ b = 255#8 ∧ s.seq = .writeHeader (.bits (.val b) 0)) ∧
    (∃ s : State, s.busy = true ∧ s.seq = .writeHeader (.scan 256)) ∧
    (∃ s : State, s.busy = true ∧ s.seq = .writeHeader (.bits .payload 0)) :=
  ⟨⟨run (.writeHeader .start), by decide⟩,
   ⟨run (.writeHeader (.bits (.magic 6) 0)), 6, by decide⟩,
   ⟨run (.writeHeader (.bits (.magic 7) 0)), by decide⟩,
   ⟨run (.writeHeader (.bits .numEntries 0)), by decide⟩,
   ⟨run (.writeHeader (.scan 0)), 0, by decide +kernel⟩,
   ⟨codes54 (run (.writeHeader (.scan 255))), 255, by decide +kernel⟩,
   ⟨run (.writeHeader (.bits (.sym 0) 0)), 0, by decide⟩,
   ⟨run (.writeHeader (.bits (.len 0) 0)), 0, by decide⟩,
   ⟨run (.writeHeader (.bits (.val 255) 0)), 255, by decide⟩,
   ⟨run (.writeHeader (.scan 256)), by decide⟩,
   ⟨run (.writeHeader (.bits .payload 0)), by decide⟩⟩

/-- V54's table and TOTAL: 132 header bits, so 16 bytes into an empty FIFO of depth 64. -/
theorem witness_WriteHeaderRunWritesHeader :
    ∃ (s : State) (es : List (Byte × BitVec 5 × BitVec 31)) (h : List Bool),
      s.busy = true ∧ s.seq = .writeHeader .start ∧ s.progress = 0#32 ∧
      es = tableEntries s.codeLen s.codeVal ∧ s.numEntries.toNat = es.length ∧
      h = headerBits es s.total ∧ s.outFifo.length + h.length / 8 ≤ s.params.outDepth.toNat :=
  ⟨{ codes54 (run (.writeHeader .start)) with total := 10 }, entries54, headerBits entries54 10,
   by decide +kernel⟩

theorem witness_EncodeChecks :
    (∃ (s : State) (b : Byte), s.busy = true ∧ s.seq = .encode (.sym b) ∧ s.progress = s.payloadCount) ∧
    (∃ s : State, s.busy = true ∧ s.seq = .encode .eos ∧ s.progress ≠ s.payloadCount) ∧
    (∃ (s : State) (b : Byte), s.busy = true ∧ s.seq = .encode (.sym b) ∧ s.progress ≠ s.payloadCount ∧
      tabGet s.codeLen b = 0#5) ∧
    (∃ (s : State) (b : Byte), s.busy = true ∧ s.seq = .encode (.sym b) ∧ s.progress ≠ s.payloadCount ∧
      tabGet s.codeLen b ≠ 0#5) ∧
    (∃ s : State, s.busy = true ∧ s.seq = .encode .eos ∧ s.progress = s.payloadCount) :=
  ⟨⟨run (.encode (.sym 0)), 0, by decide⟩,
   ⟨{ run (.encode .eos) with payloadCount := 1 }, by decide⟩,
   ⟨{ run (.encode (.sym 0x7A)) with payloadCount := 1 }, 0x7A, by decide +kernel⟩,
   ⟨{ codes54 (run (.encode (.sym 0xFF))) with payloadCount := 1 }, 0xFF, by decide +kernel⟩,
   ⟨run (.encode .eos), by decide⟩⟩

theorem witness_EncodeTakesAndFlushes :
    (∃ s : State, s.busy = true ∧ s.seq = .encode .pop ∧ s.inFifo = []) ∧
    (∃ (s : State) (b : Byte) (rest : List Token), s.busy = true ∧ s.seq = .encode .pop ∧
      s.inFifo = .byte b :: rest) ∧
    (∃ (s : State) (rest : List Token), s.busy = true ∧ s.seq = .encode .pop ∧ s.inFifo = .eos :: rest) ∧
    (∃ (s : State) (v : Word), s.busy = true ∧ s.seq = .encode (.write v 0)) ∧
    (∃ s : State, s.busy = true ∧ s.seq = .encode .flush ∧ s.bwCnt ≠ 0#3 ∧
      s.outFifo.length < s.params.outDepth.toNat) ∧
    (∃ s : State, s.busy = true ∧ s.seq = .encode .flush ∧ s.bwCnt ≠ 0#3 ∧
      s.params.outDepth.toNat ≤ s.outFifo.length) ∧
    (∃ s : State, s.busy = true ∧ s.seq = .encode .flush ∧ s.bwCnt = 0#3) :=
  ⟨⟨run (.encode .pop), by decide⟩,
   ⟨{ run (.encode .pop) with inFifo := [.byte 0xFF, .eos] }, 0xFF, [.eos], by decide⟩,
   ⟨{ run (.encode .pop) with inFifo := [.eos, .eos] }, [.eos], by decide⟩,
   ⟨run (.encode (.write 0 0)), 0, by decide⟩,
   ⟨{ run (.encode .flush) with bwBuf := 1, bwCnt := 1 }, by decide⟩,
   ⟨{ full (run (.encode .flush)) with bwBuf := 1, bwCnt := 7 }, by decide⟩,
   ⟨run (.encode .flush), by decide⟩⟩

/-- Two symbols of V54's table, one held bit before. -/
theorem witness_EncodeRunWritesPayload :
    ∃ (s : State) (bs : List Byte) (rest : List Token) (l : List Bool),
      s.busy = true ∧ s.seq = .encode .pop ∧ s.progress = 0#32 ∧
      s.inFifo = bs.map Token.byte ++ .eos :: rest ∧ s.payloadCount.toNat = bs.length ∧
      (∀ b ∈ bs, tabGet s.codeLen b ≠ 0#5) ∧
      l = heldBits s.bwBuf s.bwCnt ++ payloadBits s.codeLen s.codeVal bs ∧
      s.outFifo.length + (l.length + 7) / 8 ≤ s.params.outDepth.toNat :=
  ⟨{ codes54 (run (.encode .pop)) with
      inFifo := [.byte 0xFF, .byte 0x00, .eos], payloadCount := 2, bwBuf := 1, bwCnt := 1 },
   [0xFF, 0x00], [], [true, true, false], by decide +kernel⟩

/-- BR_CNT 1, a byte, EOS, nothing: in READ_HEADER, then in DECODE. -/
theorem witness_BitReadStep :
    (∃ (s : State) (f : RField) (n : Nat) (a : Word), s.busy = true ∧
      s.seq = .readHeader (.bits f (n + 1) a) ∧ s.brCnt = 1#4 ∧ s.brCnt ≠ 0#4) ∧
    (∃ (s : State) (f : RField) (n : Nat) (a : Word) (b : Byte) (rest : List Token), s.busy = true ∧
      s.seq = .readHeader (.bits f (n + 1) a) ∧ s.brCnt = 0#4 ∧ s.inFifo = .byte b :: rest) ∧
    (∃ (s : State) (f : RField) (n : Nat) (a : Word) (rest : List Token), s.busy = true ∧
      s.seq = .readHeader (.bits f (n + 1) a) ∧ s.brCnt = 0#4 ∧ s.inFifo = .eos :: rest) ∧
    (∃ (s : State) (f : RField) (n : Nat) (a : Word), s.busy = true ∧
      s.seq = .readHeader (.bits f (n + 1) a) ∧ s.brCnt = 0#4 ∧ s.inFifo = []) ∧
    (∃ s : State, s.busy = true ∧ s.seq = .decode .bit ∧ s.brCnt = 1#4 ∧ s.brCnt ≠ 0#4) ∧
    (∃ (s : State) (b : Byte) (rest : List Token), s.busy = true ∧ s.seq = .decode .bit ∧
      s.brCnt = 0#4 ∧ s.inFifo = .byte b :: rest) ∧
    (∃ (s : State) (rest : List Token), s.busy = true ∧ s.seq = .decode .bit ∧ s.brCnt = 0#4 ∧
      s.inFifo = .eos :: rest) ∧
    (∃ s : State, s.busy = true ∧ s.seq = .decode .bit ∧ s.brCnt = 0#4 ∧ s.inFifo = []) :=
  ⟨⟨{ run (.readHeader (.bits .payload 32 0)) with brBuf := 1, brCnt := 1 }, .payload, 31, 0, by decide⟩,
   ⟨{ run (.readHeader (.bits .payload 1 1)) with inFifo := [.byte 0x80] }, .payload, 0, 1, 0x80, [],
     by decide⟩,
   ⟨{ run (.readHeader (.bits .payload 1 1)) with inFifo := [.eos] }, .payload, 0, 1, [], by decide⟩,
   ⟨run (.readHeader (.bits .payload 1 1)), .payload, 0, 1, by decide⟩,
   ⟨{ run (.decode .bit) with brBuf := 1, brCnt := 1 }, by decide⟩,
   ⟨{ run (.decode .bit) with inFifo := [.byte 0x80] }, 0x80, [], by decide⟩,
   ⟨{ run (.decode .bit) with inFifo := [.eos] }, [], by decide⟩,
   ⟨run (.decode .bit), by decide⟩⟩

theorem witness_UnderflowFaults :
    (∃ s : State, s.busy = true ∧ s.seq = .readHeader .underflow) ∧
    (∃ s : State, s.busy = true ∧ s.seq = .decode .underflow) :=
  ⟨⟨run (.readHeader .underflow), by decide⟩, ⟨run (.decode .underflow), by decide⟩⟩

/-- The start; fewer than 7 bytes read (6, then the last but one is read); the marker; V82 at index 7;
V83 at index 0. -/
theorem witness_ReadHeaderMagicCheck :
    (∃ s : State, s.busy = true ∧ s.seq = .readHeader .start) ∧
    (∃ (s : State) (m : List Byte) (v : Word), s.busy = true ∧ s.seq = .readHeader (.bits (.magic m) 0 v) ∧
      m.length = 6 ∧ m.length < 7) ∧
    (∃ (s : State) (m : List Byte) (v : Word), s.busy = true ∧ s.seq = .readHeader (.bits (.magic m) 0 v) ∧
      m ++ [BitVec.ofNat 8 v.toNat] = [0x48#8, 0x55#8, 0x46#8, 0x46#8, 0x4D#8, 0x41#8, 0x4E#8, 0x31#8]) ∧
    (∀ k ∈ [0, 7], ∃ (s : State) (m : List Byte) (v : Word), s.busy = true ∧
      s.seq = .readHeader (.bits (.magic m) 0 v) ∧ m.length = 7 ∧ k < 8 ∧
      (m ++ [BitVec.ofNat 8 v.toNat])[k]? ≠
        [0x48#8, 0x55#8, 0x46#8, 0x46#8, 0x4D#8, 0x41#8, 0x4E#8, 0x31#8][k]? ∧
      ∀ j, j < k → (m ++ [BitVec.ofNat 8 v.toNat])[j]? =
        [0x48#8, 0x55#8, 0x46#8, 0x46#8, 0x4D#8, 0x41#8, 0x4E#8, 0x31#8][j]?) := by
  refine ⟨⟨run (.readHeader .start), by decide⟩,
    ⟨run (.readHeader (.bits (.magic [0x48, 0x55, 0x46, 0x46, 0x4D, 0x41]) 0 0x4E)),
      [0x48, 0x55, 0x46, 0x46, 0x4D, 0x41], 0x4E, by decide⟩,
    ⟨run (.readHeader (.bits (.magic [0x48, 0x55, 0x46, 0x46, 0x4D, 0x41, 0x4E]) 0 0x31)),
      [0x48, 0x55, 0x46, 0x46, 0x4D, 0x41, 0x4E], 0x31, by decide⟩, ?_⟩
  intro k hk
  simp only [List.mem_cons, List.not_mem_nil, or_false] at hk
  rcases hk with rfl | rfl
  · exact ⟨run (.readHeader (.bits (.magic [0x58, 0x55, 0x46, 0x46, 0x4D, 0x41, 0x4E]) 0 0x31)),
      [0x58, 0x55, 0x46, 0x46, 0x4D, 0x41, 0x4E], 0x31, by decide⟩
  · exact ⟨run (.readHeader (.bits (.magic [0x48, 0x55, 0x46, 0x46, 0x4D, 0x41, 0x4E]) 0 0x32)),
      [0x48, 0x55, 0x46, 0x46, 0x4D, 0x41, 0x4E], 0x32, by decide⟩

/-- V87, and V88 (j = 0, e = 1). -/
theorem witness_ReadHeaderEntryFaults :
    (∃ (s : State) (e : Byte) (n : Nat) (sym : Byte) (v : Word), s.busy = true ∧
      s.seq = .readHeader (.bits (.len e n sym) 0 v) ∧ v.toNat % 32 = 0) ∧
    (∃ (s : State) (e : Byte) (n : Nat) (sym : Byte) (v : Word) (l : BitVec 5) (j : Byte), s.busy = true ∧
      s.seq = .readHeader (.bits (.val e n sym l) 0 v) ∧ j.toNat < e.toNat ∧
      (tabGet s.dtab j).len = l ∧ (tabGet s.dtab j).val = BitVec.ofNat 31 v.toNat ∧
      ∀ c : Byte, c.toNat < j.toNat →
        ¬ ((tabGet s.dtab c).len = l ∧ (tabGet s.dtab c).val = BitVec.ofNat 31 v.toNat)) :=
  ⟨⟨run (.readHeader (.bits (.len 0 1 0x41) 0 0)), 0, 1, 0x41, 0, by decide⟩,
   ⟨{ run (.readHeader (.bits (.val 1 2 0x41 1) 0 0)) with dtab := dtabOne, dnum := 1 }, 1, 2, 0x41, 0, 1, 0,
     rfl, rfl, by decide, by decide +kernel, by decide +kernel, fun _ h => absurd h (Nat.not_lt_zero _)⟩⟩

/-- The bounds: num_entries 0 and 255; the last entry, 255 of 256, and the first of two. -/
theorem witness_ReadHeaderStoresEntries :
    (∃ (s : State) (v : Word), s.busy = true ∧ s.seq = .readHeader (.bits .numEntries 0 v) ∧
      v.toNat % 256 = 0) ∧
    (∃ (s : State) (v : Word), s.busy = true ∧ s.seq = .readHeader (.bits .numEntries 0 v) ∧
      v.toNat % 256 = 255) ∧
    (∃ (s : State) (v : Word) (e : Byte) (n : Nat), s.busy = true ∧
      s.seq = .readHeader (.bits (.sym e n) 0 v)) ∧
    (∃ (s : State) (v : Word) (e : Byte) (n : Nat) (sym : Byte), s.busy = true ∧
      s.seq = .readHeader (.bits (.len e n sym) 0 v) ∧ v.toNat % 32 = 31) ∧
    (∃ (s : State) (v : Word) (e : Byte) (n : Nat) (sym : Byte) (l : BitVec 5), s.busy = true ∧
      s.seq = .readHeader (.bits (.val e n sym l) 0 v) ∧ e = 255#8 ∧ n = 256 ∧
      ∀ c : Byte, c.toNat < e.toNat →
        ¬ ((tabGet s.dtab c).len = l ∧ (tabGet s.dtab c).val = BitVec.ofNat 31 v.toNat)) ∧
    (∃ (s : State) (v : Word) (e : Byte) (n : Nat) (sym : Byte) (l : BitVec 5), s.busy = true ∧
      s.seq = .readHeader (.bits (.val e n sym l) 0 v) ∧ e.toNat + 1 < n ∧
      ∀ c : Byte, c.toNat < e.toNat →
        ¬ ((tabGet s.dtab c).len = l ∧ (tabGet s.dtab c).val = BitVec.ofNat 31 v.toNat)) ∧
    (∃ (s : State) (v : Word), s.busy = true ∧ s.seq = .readHeader (.bits .payload 0 v)) := by
  refine ⟨⟨run (.readHeader (.bits .numEntries 0 0)), 0, by decide⟩,
    ⟨run (.readHeader (.bits .numEntries 0 0xFF)), 0xFF, by decide⟩,
    ⟨run (.readHeader (.bits (.sym 0 1) 0 0x41)), 0x41, 0, 1, by decide⟩,
    ⟨run (.readHeader (.bits (.len 0 1 0x41) 0 31)), 31, 0, 1, 0x41, by decide⟩,
    ⟨run (.readHeader (.bits (.val 255 256 0x41 8) 0 0)), 0, 255, 256, 0x41, 8, rfl, rfl, rfl, rfl, ?_⟩,
    ⟨run (.readHeader (.bits (.val 0 2 0x41 1) 0 0)), 0, 0, 2, 0x41, 1, rfl, rfl, by decide,
      fun _ h => absurd h (Nat.not_lt_zero _)⟩,
    ⟨run (.readHeader (.bits .payload 0 11)), 11, by decide⟩⟩
  intro c _ h
  exact absurd (h.1.symm.trans (congrArg DtabEntry.len (tabGet_replicate DtabEntry.zero c))) (by decide)

/-- V3's header, 118 bits, as 15 bytes: 2 bits more. -/
theorem witness_ReadHeaderRunReadsHeader :
    ∃ (s : State) (es : List (Byte × BitVec 5 × BitVec 31)) (count : Word) (bs : List Byte)
      (more : List Bool) (rest : List Token),
      s.busy = true ∧ s.seq = .readHeader .start ∧ s.progress = 0#32 ∧ 1 ≤ es.length ∧ es.length ≤ 256 ∧
      (∀ x ∈ es, x.2.1 ≠ 0#5 ∧ x.2.2.toNat < 2 ^ x.2.1.toNat) ∧ es.Pairwise (fun x y => x.2 ≠ y.2) ∧
      unpacked bs = headerBits es count ++ more ∧ more.length < 8 ∧
      s.inFifo = bs.map Token.byte ++ rest :=
  ⟨{ run (.readHeader .start) with
      inFifo := [0x48#8, 0x55#8, 0x46#8, 0x46#8, 0x4D#8, 0x41#8, 0x4E#8, 0x31#8, 0x01#8, 0x41#8, 0x08#8,
        0x00#8, 0x00#8, 0x00#8, 0x10#8].map Token.byte ++ [.byte 0, .eos] },
   [(0x41, 1, 0)], 4,
   [0x48, 0x55, 0x46, 0x46, 0x4D, 0x41, 0x4E, 0x31, 0x01, 0x41, 0x08, 0x00, 0x00, 0x00, 0x10],
   [false, false], [.byte 0, .eos], rfl, rfl, rfl, by decide, by decide, by simp, by simp,
   by decide +kernel, by decide, rfl⟩

/-- A match; none with 31 bits; none with 30. -/
theorem witness_DecodeLooksUp :
    (∃ (s : State) (e : Byte), s.busy = true ∧ s.seq = .decode .look ∧ s.dnum.toNat ≤ 256 ∧
      e.toNat < s.dnum.toNat ∧ (tabGet s.dtab e).valid = true ∧ (tabGet s.dtab e).len = s.accLen ∧
      (tabGet s.dtab e).val = s.acc ∧
      ∀ c : Byte, c.toNat < e.toNat → ¬ ((tabGet s.dtab c).valid = true ∧
        (tabGet s.dtab c).len = s.accLen ∧ (tabGet s.dtab c).val = s.acc)) ∧
    (∃ s : State, s.busy = true ∧ s.seq = .decode .look ∧ s.dnum.toNat ≤ 256 ∧
      (∀ c : Byte, c.toNat < s.dnum.toNat → ¬ ((tabGet s.dtab c).valid = true ∧
        (tabGet s.dtab c).len = s.accLen ∧ (tabGet s.dtab c).val = s.acc)) ∧ s.accLen = 31#5) ∧
    (∃ s : State, s.busy = true ∧ s.seq = .decode .look ∧ s.dnum.toNat ≤ 256 ∧
      (∀ c : Byte, c.toNat < s.dnum.toNat → ¬ ((tabGet s.dtab c).valid = true ∧
        (tabGet s.dtab c).len = s.accLen ∧ (tabGet s.dtab c).val = s.acc)) ∧ s.accLen = 30#5) := by
  refine ⟨⟨{ run (.decode .look) with dtab := dtabOne, dnum := 1, accLen := 1 }, 0, rfl, rfl, by decide,
      by decide, by decide +kernel, by decide +kernel, by decide +kernel,
      fun _ h => absurd h (Nat.not_lt_zero _)⟩,
    ⟨{ run (.decode .look) with dtab := dtabOne, dnum := 1, accLen := 31 }, rfl, rfl, by decide, ?_, rfl⟩,
    ⟨{ run (.decode .look) with dtab := dtabOne, dnum := 1, accLen := 30 }, rfl, rfl, by decide, ?_, rfl⟩⟩
  all_goals
    intro c hc h
    obtain rfl : c = 0#8 := BitVec.eq_of_toNat_eq (by
      have : c.toNat < 1 := hc
      simp
      omega)
    exact absurd h.2.1 (by decide +kernel)

/-- Room for exactly one byte; a full FIFO; PROGRESS one below and equal to PAYLOAD_COUNT. -/
theorem witness_DecodePushesAndEnds :
    (∃ (s : State) (b : Byte), s.busy = true ∧ s.seq = .decode (.push b) ∧
      s.outFifo.length + 1 = s.params.outDepth.toNat ∧ s.outFifo.length < s.params.outDepth.toNat) ∧
    (∃ (s : State) (b : Byte), s.busy = true ∧ s.seq = .decode (.push b) ∧
      s.params.outDepth.toNat ≤ s.outFifo.length) ∧
    (∃ s : State, s.busy = true ∧ s.seq = .decode .bump) ∧
    (∃ s : State, s.busy = true ∧ s.seq = .decode .next ∧ s.progress.toNat + 1 = s.payloadCount.toNat ∧
      s.progress.toNat < s.payloadCount.toNat) ∧
    (∃ s : State, s.busy = true ∧ s.seq = .decode .next ∧ s.payloadCount.toNat ≤ s.progress.toNat) :=
  ⟨⟨{ full (run (.decode (.push 0x41))) with outFifo := [] }, 0x41, by decide⟩,
   ⟨full (run (.decode (.push 0x41))), 0x41, by decide⟩,
   ⟨run (.decode .bump), by decide⟩,
   ⟨{ run (.decode .next) with progress := 10, payloadCount := 11 }, by decide⟩,
   ⟨{ run (.decode .next) with progress := 11, payloadCount := 11 }, by decide⟩⟩

/-- V54's table; 0xFF, 0x00, 0xFF is 101, of which the reader holds the first bit. -/
theorem witness_DecodeRunRecoversSymbols :
    ∃ (s : State) (es xs : List (Byte × BitVec 5 × BitVec 31)) (bs : List Byte) (more : List Bool)
      (rest : List Token),
      s.busy = true ∧ s.seq = .decode .next ∧ s.progress = 0#32 ∧
      s.dnum.toNat = es.length ∧ es.length ≤ 256 ∧
      (∀ (e : Nat) (x : Byte × BitVec 5 × BitVec 31), es[e]? = some x →
        tabGet s.dtab (BitVec.ofNat 8 e) = { valid := true, sym := x.1, len := x.2.1, val := x.2.2 }) ∧
      (∀ x ∈ es, x.2.1 ≠ 0#5 ∧ x.2.2.toNat < 2 ^ x.2.1.toNat) ∧ EntriesPrefixFree es ∧
      (∀ x ∈ xs, x ∈ es) ∧ s.payloadCount.toNat = xs.length ∧
      unreadBits s.brBuf s.brCnt ++ unpacked bs =
        xs.flatMap (fun x => codewordBits x.2.1 x.2.2) ++ more ∧
      (bs = [] ∨ more.length < 8) ∧ s.inFifo = bs.map Token.byte ++ rest ∧
      s.outFifo.length + xs.length ≤ s.params.outDepth.toNat := by
  refine ⟨{ dtab54 (run (.decode .next)) with
      payloadCount := 3, brBuf := 1, brCnt := 1, inFifo := [.byte 0x40, .eos] },
    entries54, [(0xFF, 1, 1), (0x00, 1, 0), (0xFF, 1, 1)], [0x40],
    [false, false, false, false, false, false], [.eos], rfl, rfl, rfl, rfl, by decide, ?_,
    by simp [entries54], ?_, by simp [entries54], rfl, by decide +kernel, by decide, rfl, by decide⟩
  · intro e x h
    match e, h with
    | 0, h => cases h; decide +kernel
    | 1, h => cases h; decide +kernel
    | n + 2, h => cases h
  · simp [EntriesPrefixFree, entries54, CodePrefix]

theorem witness_BitReadInvertsBitWrite :
    ∃ xs : List (Word × Nat), xs ≠ [] ∧ ∀ x ∈ xs, 1 ≤ x.2 ∧ x.2 ≤ 32 :=
  ⟨[(1, 1), (0xDEADBEEF, 32)], by decide⟩

/-- 9 bits of 2 bytes, and all 16. -/
theorem witness_AdapterCounts :
    (∃ (ns : List Nat) (bs : List Byte), ns.sum = 9 ∧ ns.sum ≤ 8 * bs.length) ∧
    (∃ (ns : List Nat) (bs : List Byte), ns.sum = 16 ∧ ns.sum ≤ 8 * bs.length) :=
  ⟨⟨[1, 8], [0xFF, 0x00], by decide⟩, ⟨[13, 3], [0xFF, 0xF8], by decide⟩⟩

/-- The least and the greatest depths. -/
theorem witness_ResetValues :
    (∃ p : Params, p.wellFormed = true ∧ p.inDepth.toNat = 1 ∧ p.outDepth.toNat = 1) ∧
    (∃ p : Params, p.wellFormed = true ∧ p.inDepth.toNat = 4095 ∧ p.outDepth.toNat = 4095) :=
  ⟨⟨{ base := 0, inDepth := 1, outDepth := 1 }, by decide⟩,
   ⟨{ base := 256, inDepth := 4095, outDepth := 4095 }, by decide⟩⟩

theorem witness_ResetEndsEverything :
    (∃ (s : State) (rest : List HostLine) (v : Word), s.program = .wr .ctrl v :: rest ∧
      v.getLsbD 0 = true) ∧
    (∃ (s : State) (rest : List HostLine), s.busy = true ∧ s.program = .platformReset :: rest) ∧
    (∃ (s : State) (rest : List HostLine) (v : Word), s.program = .wr .ctrl v :: rest ∧
      v.getLsbD 0 = false) :=
  ⟨⟨prog [.wr .ctrl 1], [], 1, by decide⟩,
   ⟨{ run (.count .pop) with program := [.platformReset] }, [], by decide⟩,
   ⟨prog [.wr .ctrl 2], [], 2, by decide⟩⟩

theorem witness_OutDataRead :
    (∃ (s : State) (rest : List HostLine) (b : Byte) (bs : List Byte), s.program = .rd .outData :: rest ∧
      s.outFifo = b :: bs) ∧
    (∃ (s : State) (rest : List HostLine), s.program = .rd .outData :: rest ∧ s.outFifo = []) :=
  ⟨⟨{ prog [.rd .outData] with outFifo := [0x48] }, [], 0x48, [], by decide⟩,
   ⟨prog [.rd .outData], [], by decide⟩⟩

/-- Level one below the depth and at the depth, for the byte and for EOS; IN_FLUSH with and without. -/
theorem witness_StreamRegisterWrites :
    (∃ (s : State) (rest : List HostLine) (v : Word), s.program = .wr .inData v :: rest ∧
      s.inFifo.length + 1 = s.params.inDepth.toNat) ∧
    (∃ (s : State) (rest : List HostLine) (v : Word), s.program = .wr .inData v :: rest ∧
      s.inFifo.length = s.params.inDepth.toNat) ∧
    (∃ (s : State) (rest : List HostLine) (v : Word), s.program = .wr .fifoCtrl v :: rest ∧
      0 < s.params.inDepth.toNat ∧ v.getLsbD 1 = true) ∧
    (∃ (s : State) (rest : List HostLine) (v : Word), s.program = .wr .fifoCtrl v :: rest ∧
      0 < s.params.inDepth.toNat ∧ v.getLsbD 1 = false ∧ v.getLsbD 0 = false) ∧
    (∃ (s : State) (rest : List HostLine) (v : Word), s.program = .wr .fifoCtrl v :: rest ∧
      0 < s.params.inDepth.toNat ∧ v.getLsbD 1 = false ∧ v.getLsbD 0 = true ∧
      s.inFifo.length < s.params.inDepth.toNat) ∧
    (∃ (s : State) (rest : List HostLine) (v : Word), s.program = .wr .fifoCtrl v :: rest ∧
      0 < s.params.inDepth.toNat ∧ v.getLsbD 1 = false ∧ v.getLsbD 0 = true ∧
      s.params.inDepth.toNat ≤ s.inFifo.length) :=
  ⟨⟨full (prog [.wr .inData 5]), [], 5, by decide⟩,
   ⟨{ full (prog [.wr .inData 5]) with inFifo := [.eos] }, [], 5, by decide⟩,
   ⟨full (prog [.wr .fifoCtrl 3]), [], 3, by decide⟩,
   ⟨full (prog [.wr .fifoCtrl 4]), [], 4, by decide⟩,
   ⟨full (prog [.wr .fifoCtrl 1]), [], 1, by decide⟩,
   ⟨{ full (prog [.wr .fifoCtrl 1]) with inFifo := [.eos] }, [], 1, by decide⟩⟩

theorem witness_InterruptAndIndexRegisters :
    ∀ r ∈ [Reg.intStatus, .intEn, .index], ∃ (s : State) (rest : List HostLine) (v : Word),
      s.program = .wr r v :: rest := by
  intro r _
  exact ⟨prog [.wr r 0xFFFFFFFF], [], 0xFFFFFFFF, rfl⟩

/-- A full input FIFO. -/
theorem witness_StatusLayouts :
    ∃ s : State, FifoBounds s ∧ s.inFifo.length = s.params.inDepth.toNat :=
  ⟨{ full State.reset with inFifo := [.eos] }, ⟨by decide, by decide⟩, rfl⟩

theorem witness_RegisterReads :
    (∃ (s : State) (rest : List HostLine) (r : Reg) (m : Word), s.program = .rd r :: rest ∧ s.busy = true ∧
      (r, m) ∈ [(Reg.total, 0xFFFFFFFF#32), (.numEntries, 0x1FF#32), (.payloadCount, 0xFFFFFFFF#32),
        (.histData, 0xFFFFFFFF#32), (.codeLenData, 0x1F#32), (.codeValData, 0x7FFFFFFF#32),
        (.dtabNum, 0x1FF#32), (.dtabSym, 0x80001FFF#32), (.dtabVal, 0x7FFFFFFF#32)]) ∧
    (∃ (s : State) (rest : List HostLine) (r : Reg), s.program = .rd r :: rest ∧ s.busy = true ∧
      r ∈ [Reg.id, .config, .ctrl, .cmd, .status, .intEn, .intStatus, .faultInfo, .inData, .fifoCtrl,
        .fifoStatus, .progress, .index]) ∧
    (∃ (s : State) (rest : List HostLine) (r : Reg), s.program = .rd r :: rest ∧ s.busy = false ∧
      r ≠ .outData) ∧
    (∃ (s : State) (rest : List HostLine) (r : Reg), s.program = .rd r :: rest ∧ r = .outData) ∧
    (∃ (s : State) (b : Byte) (bs : List Byte), s.outFifo = b :: bs) ∧ (∃ s : State, s.outFifo = []) :=
  ⟨⟨{ run .clear with program := [.rd .dtabSym] }, [], .dtabSym, 0x80001FFF, by decide⟩,
   ⟨{ run .clear with program := [.rd .index] }, [], .index, by decide⟩,
   ⟨prog [.rd .histData], [], .histData, by decide⟩, ⟨prog [.rd .outData], [], .outData, by decide⟩,
   ⟨full State.reset, 0xAA, [], by decide⟩, ⟨State.reset, by decide⟩⟩

/-- DECODE before a full output FIFO of depth 1; COUNT before an empty input FIFO; no command, with one to
issue and with none. -/
theorem witness_StreamLineServesEngine :
    (∃ (s : State) (cmds : List Instr) (ts : List Token) (rest : List HostLine), s.params.wellFormed = true ∧
      FifoBounds s ∧ s.program = .stream cmds ts .status :: rest ∧ waitOut s = true) ∧
    (∃ (s : State) (cmds : List Instr) (ts : List Token) (rest : List HostLine) (x : Token)
      (ts' : List Token), s.params.wellFormed = true ∧ FifoBounds s ∧
      s.program = .stream cmds ts .status :: rest ∧ waitIn s = true ∧ ts = x :: ts') ∧
    (∃ (s : State) (cmds : List Instr) (ts : List Token) (rest : List HostLine) (i : Instr)
      (cs : List Instr), s.params.wellFormed = true ∧ FifoBounds s ∧
      s.program = .stream cmds ts .status :: rest ∧ s.busy = false ∧ (s.fault = false ∨ i = .clear) ∧
      cmds = i :: cs) ∧
    (∃ (s : State) (cmds : List Instr) (ts : List Token) (rest : List HostLine), s.params.wellFormed = true ∧
      FifoBounds s ∧ s.program = .stream cmds ts .status :: rest ∧ s.busy = false ∧ cmds = []) :=
  ⟨⟨{ full (run (.decode (.push 0x41))) with program := [.stream [] [.eos] .status] }, [], [.eos], [],
     by decide, ⟨by decide, by decide⟩, rfl, by decide⟩,
   ⟨{ run (.count .pop) with program := [.stream [] [.byte 0x41, .eos] .status] }, [], [.byte 0x41, .eos], [],
     .byte 0x41, [.eos], by decide, ⟨by decide, by decide⟩, rfl, by decide, rfl⟩,
   ⟨prog [.stream [.decode] [.eos] .status], [.decode], [.eos], [], .decode, [], by decide,
     ⟨by decide, by decide⟩, rfl, rfl, .inl rfl, rfl⟩,
   ⟨prog [.stream [] [.eos] .status], [], [.eos], [], by decide, ⟨by decide, by decide⟩, rfl, rfl, rfl⟩⟩

/-- The first and the last reserved offset, written and read. -/
theorem witness_ReservedAndReadOnlyAccesses :
    (∃ (s : State) (rest : List HostLine) (v : Word) (r : Reg), r ∈ [Reg.id, .config, .status, .faultInfo,
      .outData, .fifoStatus, .progress, .total, .numEntries, .payloadCount, .histData, .codeLenData,
      .codeValData, .dtabNum, .dtabSym, .dtabVal] ∧ s.program = .wr r v :: rest) ∧
    (∀ off ∈ [0x5C, 0xFC], ∃ (s : State) (rest : List HostLine) (v : Word), 0x5C ≤ off ∧ off ≤ 0xFC ∧
      off % 4 = 0 ∧ s.program = .access
        { master := .host, width := .word, addr := s.params.base + off, op := .write v } :: rest) ∧
    (∀ off ∈ [0x5C, 0xFC], ∃ (s : State) (rest : List HostLine), 0x5C ≤ off ∧ off ≤ 0xFC ∧
      off % 4 = 0 ∧ s.program = .access
        { master := .host, width := .word, addr := s.params.base + off, op := .read } :: rest) := by
  refine ⟨⟨prog [.wr .dtabVal 1], [], 1, .dtabVal, by decide⟩, fun off h => ?_, fun off h => ?_⟩
  · refine ⟨prog [.access { master := .host, width := .word, addr := 0 + off, op := .write 1 }], [], 1,
      ?_, ?_, ?_, rfl⟩ <;> revert off <;> decide
  · refine ⟨prog [.access { master := .host, width := .word, addr := 0 + off, op := .read }], [],
      ?_, ?_, ?_, rfl⟩ <;> revert off <;> decide

/-- A second master; the last byte of the window; a half-word at its first. -/
theorem witness_UnsupportedAccessesRefused :
    (∃ (s : State) (a : BusAccess) (rest : List HostLine), s.program = .access a :: rest ∧
      a.master = .other) ∧
    (∃ (s : State) (a : BusAccess) (rest : List HostLine), s.program = .access a :: rest ∧
      a.master = .host ∧ s.params.base ≤ a.addr ∧ a.addr < s.params.base + 256 ∧
      (a.addr - s.params.base) % 4 ≠ 0) ∧
    (∃ (s : State) (a : BusAccess) (rest : List HostLine), s.program = .access a :: rest ∧
      a.master = .host ∧ s.params.base ≤ a.addr ∧ a.addr < s.params.base + 256 ∧ a.width ≠ .word) ∧
    (∃ (s : State) (a : BusAccess) (rest : List HostLine), s.program = .access a :: rest ∧
      a.master = .host ∧ s.params.base ≤ a.addr ∧ a.addr < s.params.base + 256 ∧ a.width = .wide) :=
  ⟨⟨prog [.access { master := .other, width := .word, addr := 0, op := .read }],
     { master := .other, width := .word, addr := 0, op := .read }, [], by decide⟩,
   ⟨prog [.access { master := .host, width := .word, addr := 255, op := .read }],
     { master := .host, width := .word, addr := 255, op := .read }, [], by decide⟩,
   ⟨prog [.access { master := .host, width := .half, addr := 0, op := .write 1 }],
     { master := .host, width := .half, addr := 0, op := .write 1 }, [], by decide⟩,
   ⟨prog [.access { master := .host, width := .wide, addr := 252, op := .read }],
     { master := .host, width := .wide, addr := 252, op := .read }, [], by decide⟩⟩

theorem witness_RunningCommandUndisturbed :
    ∃ (s : State) (r : Reg), s.busy = true ∧ r ≠ .ctrl ∧ r ≠ .inData ∧ r ≠ .fifoCtrl :=
  ⟨run (.count .pop), .cmd, by decide⟩

/-- A state of the invariant in which a command runs: CLEAR after its acceptance. -/
def clearing : State := { run .clear with cmdWord := 1 }

theorem inv_clearing : Inv clearing where
  params := by decide
  fifos := ⟨by decide, by decide⟩
  control := ⟨rfl, fun _ => rfl, by decide, fun _ => rfl, fun _ _ => rfl⟩
  adapters := ⟨by decide, by decide⟩
  hist := by unfold HistOk; decide +kernel
  codes b := by
    have h1 : tabGet clearing.codeVal b = 0 := tabGet_replicate 0 b
    have h2 : tabGet clearing.codeLen b = 0 := tabGet_replicate 0 b
    rw [h1, h2]
    decide
  dtab := by
    have h : ∀ e : Byte, tabGet clearing.dtab e = DtabEntry.zero := tabGet_replicate DtabEntry.zero
    refine ⟨by decide, fun e => ?_, fun e he => ?_, fun e he => ?_, fun i j hi => ?_⟩
    · rw [h]; exact ⟨fun hf => (by cases hf), fun hn => absurd hn (Nat.not_lt_zero _)⟩
    · rw [h] at he; cases he
    · rw [h] at he; cases he
    · rw [h] at hi; cases hi
  read := trivial
  build := ⟨fun h => (by cases h), fun h => (by rcases h with h | h <;> cases h)⟩

theorem step_clearing : step clearing = .next (clearEvent clearing) :=
  (step_of_no_program rfl rfl).trans (exec_clear_running (s := clearing) rfl rfl)

theorem witness_StepKeepsInv : ∃ s t : State, Inv s ∧ step s = .next t :=
  ⟨clearing, clearEvent clearing, inv_clearing, step_clearing⟩

theorem witness_ResetMeetsInv : ∃ p : Params, p.wellFormed = true ∧ p.outDepth.toNat = 4095 :=
  ⟨{ base := 256, inDepth := 1, outDepth := 4095 }, by decide⟩

/-- In the fault state with an ignored word, with CLEAR's event next, and with a reset next. -/
theorem witness_FaultLeftOnlyByClearOrReset :
    (∃ s t : State, ControlOk s ∧ s.fault = true ∧ step s = .next t ∧ t.fault = true) ∧
    (∃ s t : State, ControlOk s ∧ s.fault = true ∧ step s = .next t ∧ s.busy = true ∧ t.fault = false) ∧
    (∃ s t : State, ControlOk s ∧ s.fault = true ∧ step s = .next t ∧ s.busy = false ∧ t.fault = false) :=
  ⟨⟨{ prog [.cmd .count] with fault := true, faultCode := .sequence }, _,
     ⟨rfl, fun h => (by cases h), by decide, fun h => (by cases h), fun _ h => (by cases h)⟩, rfl, rfl, rfl⟩,
   ⟨{ clearing with fault := true, faultCode := .sequence }, _,
     ⟨rfl, fun _ => rfl, by decide, fun h => (by cases h), fun _ _ => rfl⟩, rfl, rfl, rfl, rfl⟩,
   ⟨{ prog [.platformReset] with fault := true, faultCode := .sequence }, _,
     ⟨rfl, fun h => (by cases h), by decide, fun h => (by cases h), fun _ h => (by cases h)⟩,
     rfl, rfl, rfl, rfl⟩⟩

/-- A run that is u at its start and v for ever after. -/
def thenStays (u v : State) : Nat → State
  | 0 => u
  | _ + 1 => v

theorem run_thenStays {u v : State} (h1 : step u = .next v) (h2 : step v = .next v) :
    Run (thenStays u v)
  | 0 => h1
  | _ + 1 => h2

theorem weaklyFair_thenStays {u v : State} (h : engineReady v = false) : WeaklyFair (thenStays u v) := by
  intro n hn
  have h1 := hn (n + 1) (Nat.le_succ n)
  simp [thenStays, h] at h1

/-- CLEAR, and BUILD of an empty histogram. -/
theorem witness_FairRunEndsClearAndBuild :
    (∃ (r : Nat → State) (n : Nat), Run r ∧ WeaklyFair r ∧ (r n).busy = true ∧
      runningOf (r n).seq = some .clear) ∧
    (∃ (r : Nat → State) (n : Nat), Run r ∧ WeaklyFair r ∧ (r n).busy = true ∧
      runningOf (r n).seq = some .build) := by
  refine ⟨⟨thenStays clearing (clearEvent clearing), 0, run_thenStays step_clearing ?_,
      weaklyFair_thenStays rfl, rfl, rfl⟩,
    ⟨thenStays (run (.build .start)) (complete .built (singleCode 0#8 (clearCodes (run (.build .start))))), 0,
      run_thenStays ?_ ?_, weaklyFair_thenStays rfl, rfl, rfl⟩⟩
  · rfl
  · have h : present (run (.build .start)).hist = [] := by decide +kernel
    rw [step_of_no_program rfl rfl]
    refine (exec_build_running (s := run (.build .start)) rfl rfl).trans ?_
    simp only [buildEvent, buildStart, h]
  · rfl

end Sys2Proof.Tests
end

/-! PROOFS. The code table BUILD leaves is PrefixFree (spec/43_build.md R170, R175, R178, R179). -/

namespace Sys2Proof.Machine

open Sys2Proof

/-! ## Codeword paths -/

/-- CodePrefix on two paths, taken as codewords (R14, R175). -/
def LeafPath.IsPrefix (x y : LeafPath) : Prop := CodePrefix x.depth x.path y.depth y.path

/-- Two paths neither of which begins with the other (R14). -/
def LeafPath.Apart (x y : LeafPath) : Prop := ¬ x.IsPrefix y ∧ ¬ y.IsPrefix x

theorem LeafPath.symm_apart : Std.Symm LeafPath.Apart := ⟨fun _ _ h => h.symm⟩

/-- The number a path holds fits in its bits (R44, R175). -/
def LeafPath.Fits (x : LeafPath) : Prop := x.path < 2 ^ x.depth

theorem LeafPath.fits_up {x : LeafPath} {bit : Nat} (hbit : bit ≤ 1) (h : x.Fits) : (x.up bit).Fits := by
  have hle : bit * 2 ^ x.depth ≤ 1 * 2 ^ x.depth := Nat.mul_le_mul_right _ hbit
  simp only [LeafPath.Fits, LeafPath.up, Nat.pow_succ] at h ⊢
  omega

/-- Dropping low bits below a leading bit leaves the leading bit in place. -/
theorem lead_add_div_two_pow (c p : Nat) {d e : Nat} (h : d ≤ e) :
    (c * 2 ^ e + p) / 2 ^ (e - d) = c * 2 ^ d + p / 2 ^ (e - d) := by
  have hsplit : c * 2 ^ e = c * 2 ^ d * 2 ^ (e - d) := by
    rw [Nat.mul_assoc, ← Nat.pow_add, Nat.add_sub_cancel' h]
  rw [hsplit, Nat.add_comm, Nat.add_mul_div_right _ _ (Nat.two_pow_pos _), Nat.add_comm]

/-- A step up puts one bit before both paths: one still begins with the other where the two bits are equal and it
did so before (R175). -/
theorem LeafPath.isPrefix_up_iff {x y : LeafPath} (hx : x.Fits) (hy : y.Fits) (b c : Nat) :
    (x.up b).IsPrefix (y.up c) ↔ b = c ∧ x.IsPrefix y := by
  simp only [LeafPath.IsPrefix, CodePrefix, LeafPath.up, Nat.add_le_add_iff_right, Nat.add_sub_add_right]
  by_cases hle : x.depth ≤ y.depth
  · have hq : y.path / 2 ^ (y.depth - x.depth) < 2 ^ x.depth := by
      rw [Nat.div_lt_iff_lt_mul (Nat.two_pow_pos _), ← Nat.pow_add, Nat.add_sub_cancel' hle]
      exact hy
    rw [lead_add_div_two_pow c y.path hle]
    refine ⟨fun ⟨_, h⟩ => ?_, fun ⟨hbc, _, h⟩ => ⟨hle, by rw [hbc, h]⟩⟩
    have hd := congrArg (· / 2 ^ x.depth) h
    have hm := congrArg (· % 2 ^ x.depth) h
    simp only [Nat.mul_comm _ (2 ^ x.depth), Nat.mul_add_div (Nat.two_pow_pos _), Nat.mul_add_mod,
      Nat.div_eq_of_lt hq, Nat.div_eq_of_lt hx, Nat.mod_eq_of_lt hq, Nat.mod_eq_of_lt hx] at hd hm
    exact ⟨hd.symm, hle, hm⟩
  · simp [hle]

theorem LeafPath.apart_up_iff {x y : LeafPath} (hx : x.Fits) (hy : y.Fits) (bit : Nat) :
    (x.up bit).Apart (y.up bit) ↔ x.Apart y := by
  simp [LeafPath.Apart, LeafPath.isPrefix_up_iff hx hy, LeafPath.isPrefix_up_iff hy hx]

theorem LeafPath.apart_up_of_ne {x y : LeafPath} (hx : x.Fits) (hy : y.Fits) {b c : Nat} (h : b ≠ c) :
    (x.up b).Apart (y.up c) := by
  simp [LeafPath.Apart, LeafPath.isPrefix_up_iff hx hy, LeafPath.isPrefix_up_iff hy hx, h, h.symm]

/-! ## The leaves under a node -/

theorem leafPaths_of_leaf {t : Vector Node 511} {n : NodeIx} (h : (nodeGet t n).leaf = true) (f : Nat) :
    leafPaths t (f + 1) n = [{ sym := (nodeGet t n).sym, depth := 0, path := 0 }] := by
  simp [leafPaths, h]

theorem leafPaths_of_inner {t : Vector Node 511} {n : NodeIx} (h : (nodeGet t n).leaf = false) (f : Nat) :
    leafPaths t (f + 1) n =
      (leafPaths t f (nodeGet t n).left).map (LeafPath.up 0) ++
        (leafPaths t f (nodeGet t n).right).map (LeafPath.up 1) := by
  simp [leafPaths, h]

theorem fits_of_mem_leafPaths (t : Vector Node 511) (f : Nat) (n : NodeIx) :
    ∀ x ∈ leafPaths t f n, x.Fits := by
  induction f generalizing n with
  | zero => simp [leafPaths]
  | succ f ih =>
    cases h : (nodeGet t n).leaf
    case true => simp [leafPaths_of_leaf h, LeafPath.Fits]
    case false =>
      intro x hx
      rw [leafPaths_of_inner h, List.mem_append, List.mem_map, List.mem_map] at hx
      obtain ⟨y, hy, rfl⟩ | ⟨y, hy, rfl⟩ := hx
      · exact LeafPath.fits_up (Nat.zero_le 1) (ih _ y hy)
      · exact LeafPath.fits_up (Nat.le_refl 1) (ih _ y hy)

theorem pairwise_apart_map_up {ps : List LeafPath} (hfit : ∀ x ∈ ps, x.Fits)
    (h : ps.Pairwise LeafPath.Apart) (bit : Nat) : (ps.map (LeafPath.up bit)).Pairwise LeafPath.Apart :=
  List.pairwise_map.2 <| h.imp_of_mem fun hx hy hxy =>
    (LeafPath.apart_up_iff (hfit _ hx) (hfit _ hy) bit).2 hxy

/-- The leaves under a node are apart, whatever the node store holds (R175, R179): two on one side of an inner node
by induction, two on different sides by their first bits. -/
theorem pairwise_apart_leafPaths (t : Vector Node 511) (f : Nat) (n : NodeIx) :
    (leafPaths t f n).Pairwise LeafPath.Apart := by
  induction f generalizing n with
  | zero => simp [leafPaths]
  | succ f ih =>
    cases h : (nodeGet t n).leaf
    case true => simp [leafPaths_of_leaf h]
    case false =>
      have hfit := fits_of_mem_leafPaths t f
      rw [leafPaths_of_inner h, List.pairwise_append]
      refine ⟨pairwise_apart_map_up (hfit _) (ih _) 0, pairwise_apart_map_up (hfit _) (ih _) 1, ?_⟩
      simp only [List.forall_mem_map]
      intro x hx y hy
      exact LeafPath.apart_up_of_ne (hfit _ x hx) (hfit _ y hy) Nat.zero_ne_one

/-! ## The table written from paths -/

theorem tooLong_eq_none_iff (ps : List LeafPath) : tooLong ps = none ↔ ∀ x ∈ ps, x.depth ≤ 31 := by
  have hall (b : Byte) : b ∈ (List.range 256).map (BitVec.ofNat 8) :=
    List.mem_map.2 ⟨b.toNat, List.mem_range.2 b.isLt, by simp⟩
  simp only [tooLong, List.find?_eq_none, List.any_eq_true, Bool.and_eq_true, beq_iff_eq,
    decide_eq_true_eq, not_exists, not_and, not_lt]
  exact ⟨fun h x hx => h x.sym (hall _) x hx rfl, fun h _ _ x hx _ => h x hx⟩

/-- An entry after the table's writing is what it was before, or the codeword of one of the paths (R170). -/
theorem writePaths_entry_cases (ps : List LeafPath) (s : State) (b : Byte) :
    (tabGet (writePaths ps s).codeLen b = tabGet s.codeLen b ∧
      tabGet (writePaths ps s).codeVal b = tabGet s.codeVal b) ∨
    ∃ x ∈ ps, x.sym = b ∧ tabGet (writePaths ps s).codeLen b = BitVec.ofNat 5 x.depth ∧
      tabGet (writePaths ps s).codeVal b = BitVec.ofNat 31 x.path := by
  induction ps generalizing s with
  | nil => exact .inl ⟨rfl, rfl⟩
  | cons y ys ih =>
    rw [show writePaths (y :: ys) s = writePaths ys (writePath s y) from rfl]
    obtain ⟨hlen, hval⟩ | ⟨x, hx, hentry⟩ := ih (writePath s y)
    · rw [hlen, hval]
      by_cases hy : y.sym = b
      · exact .inr ⟨y, List.mem_cons_self, hy, by simp [writePath, hy]⟩
      · exact .inl (by simp [writePath, tabGet_tabSet_ne _ _ hy])
    · exact .inr ⟨x, List.mem_cons_of_mem y hx, hentry⟩

/-- Over a clear table, every codeword after the table's writing is one of the paths, if they all fit (R170). -/
theorem writePaths_codeword {ps : List LeafPath} {s : State} {b : Byte}
    (hclear : tabGet s.codeLen b = 0#5) (hfit : ∀ x ∈ ps, x.Fits) (hdepth : ∀ x ∈ ps, x.depth ≤ 31)
    (hb : tabGet (writePaths ps s).codeLen b ≠ 0#5) :
    ∃ x ∈ ps, x.sym = b ∧ (tabGet (writePaths ps s).codeLen b).toNat = x.depth ∧
      (tabGet (writePaths ps s).codeVal b).toNat = x.path := by
  obtain ⟨hlen, -⟩ | ⟨x, hx, hsym, hlen, hval⟩ := writePaths_entry_cases ps s b
  · exact absurd (hlen.trans hclear) hb
  · have hd := hdepth x hx
    have hp : x.path < 2 ^ 31 := (hfit x hx).trans_le (Nat.pow_le_pow_right Nat.zero_lt_two hd)
    refine ⟨x, hx, hsym, ?_, ?_⟩
    · rw [hlen, BitVec.toNat_ofNat, Nat.mod_eq_of_lt (by omega)]
    · rw [hval, BitVec.toNat_ofNat, Nat.mod_eq_of_lt hp]

theorem prefixFree_clear (val : Vector (BitVec 31) 256) :
    PrefixFree (Vector.replicate 256 0#5) val :=
  fun _ _ _ ha => absurd (tabGet_replicate _ _) ha

/-- Two symbols' codewords come from two different paths, so it does no harm if some other path has the same symbol
as one of them (R179). -/
theorem prefixFree_writePaths {ps : List LeafPath} {s : State}
    (hclear : s.codeLen = Vector.replicate 256 0#5) (hfit : ∀ x ∈ ps, x.Fits)
    (hdepth : ∀ x ∈ ps, x.depth ≤ 31) (hapart : ps.Pairwise LeafPath.Apart) :
    PrefixFree (writePaths ps s).codeLen (writePaths ps s).codeVal := by
  intro a b hab ha hb
  have hzero (c : Byte) : tabGet s.codeLen c = 0#5 := by rw [hclear, tabGet_replicate]
  obtain ⟨x, hx, hxa, hxlen, hxval⟩ := writePaths_codeword (hzero a) hfit hdepth ha
  obtain ⟨y, hy, hyb, hylen, hyval⟩ := writePaths_codeword (hzero b) hfit hdepth hb
  have hxy : x ≠ y := fun h => hab (by rw [← hxa, ← hyb, h])
  rw [hxlen, hxval, hylen, hyval]
  have := LeafPath.symm_apart
  exact (hapart.forall hx hy hxy).1

/-- Everything BUILD's last event can do (R170, R178). -/
theorem flattenTree_cases (s : State) :
    (∃ b, tooLong (codePaths s) = some b ∧
      flattenTree s = raiseFault .codeTooLong (b.setWidth 32) (clearCodes s)) ∨
    (tooLong (codePaths s) = none ∧
      flattenTree s = complete .built
        { writePaths (codePaths s) s with numEntries := BitVec.ofNat 9 (present s.hist).length }) := by
  unfold flattenTree
  cases tooLong (codePaths s) <;> simp

theorem prefixFree_flattenTree {s : State} (hclear : s.codeLen = Vector.replicate 256 0#5) :
    PrefixFree (flattenTree s).codeLen (flattenTree s).codeVal := by
  obtain ⟨b, -, h⟩ | ⟨hshort, h⟩ := flattenTree_cases s <;> rw [h]
  case inl => exact prefixFree_clear _
  case inr =>
    exact prefixFree_writePaths hclear (fits_of_mem_leafPaths _ _ _) ((tooLong_eq_none_iff _).1 hshort)
      (pairwise_apart_leafPaths _ _ _)

/-- Settles O21: no path of a leaf under the root begins with another leaf's, by induction on the descent, and the
event writes only such paths over the clear table, or clears it. -/
theorem buildTablePrefixFree : Obligations.BuildTablePrefixFree := by
  intro s t hbusy hseq hbuild hexec
  obtain ⟨hclear, -, -⟩ := hbuild.clear (.inr hseq)
  rw [exec_build_running hbusy hseq] at hexec
  cases hexec
  exact prefixFree_flattenTree hclear

end Sys2Proof.Machine

/-! PROOFS. Every step keeps the invariant of a sound state (spec/10_state.md R21 to R51): each event keeps the data,
and leaves the sequencer in agreement with the control state. -/

namespace Sys2Proof.Machine

open Sys2Proof

/-! ## The invariant in parts -/

/-- The clauses of Inv over the tables, the FIFOs and the bit adapters (R44 to R51), read off the fields themselves,
so that an event of the sequencer alone keeps them by definition. The last is DtabOk of every state with the decoder
table of s. -/
def DataOk (s : State) : Prop :=
  s.params.wellFormed = true ∧ FifoBounds s ∧ AdaptersOk s ∧ HistOk s ∧ CodesOk s ∧
    ∀ u : State, SameDtab s u → DtabOk u

theorem DtabOk.congr {s t : State} (h : DtabOk s) (hsame : SameDtab s t) : DtabOk t := by
  obtain ⟨hdtab, hdnum⟩ := hsame
  obtain ⟨hle, hvalid, hpos, hfit, hdistinct⟩ := h
  rw [← hdnum] at hle hvalid
  rw [← hdtab] at hvalid hpos hfit hdistinct
  exact ⟨hle, hvalid, hpos, hfit, hdistinct⟩

theorem inv_iff (s : State) : Inv s ↔ DataOk s ∧ ControlOk s ∧ ReadOk s ∧ BuildOk s := by
  constructor
  · intro ⟨hparams, hfifos, hcontrol, hadapters, hhist, hcodes, hdtab, hread, hbuild⟩
    exact ⟨⟨hparams, hfifos, hadapters, hhist, hcodes, fun _ => hdtab.congr⟩, hcontrol, hread, hbuild⟩
  · intro ⟨⟨hparams, hfifos, hadapters, hhist, hcodes, hdtab⟩, hcontrol, hread, hbuild⟩
    exact ⟨hparams, hfifos, hcontrol, hadapters, hhist, hcodes, hdtab s ⟨rfl, rfl⟩, hread, hbuild⟩

theorem DataOk.dtabOk {s : State} (h : DataOk s) : DtabOk s := by
  obtain ⟨-, -, -, -, -, hdtab⟩ := h
  exact hdtab s ⟨rfl, rfl⟩

theorem Inv.dataOk {s : State} (h : Inv s) : DataOk s := ((inv_iff s).1 h).1

/-- Command i runs, at whatever point, outside the fault state (R21, R26, R27). -/
def Engaged (i : Instr) (s : State) : Prop :=
  s.busy = true ∧ decode s.cmdWord = some i ∧ s.fault = false ∧ s.faultCode = .none ∧ s.faultInfo = 0

theorem Inv.engaged {s : State} {i : Instr} (h : Inv s) (hbusy : s.busy = true) (hrun : runningOf s.seq = some i)
    (hi : i ≠ .clear) : Engaged i s := by
  have hfault : s.fault = false := by
    cases hf : s.fault
    case false => rfl
    case true =>
      rw [h.control.only_clear hf hbusy] at hrun
      exact absurd (Option.some.inj hrun).symm hi
  refine ⟨hbusy, (h.control.word_runs hbusy).trans hrun, hfault, ?_, h.control.info_zero hfault⟩
  by_contra hcode
  exact absurd (h.control.fault_iff.2 hcode) (by simp [hfault])

theorem readOk_of_not_readHeader {s : State} (h : runningOf s.seq ≠ some .readHeader) : ReadOk s := by
  unfold ReadOk
  split <;> simp_all [runningOf]

theorem buildOk_of_not_build {s : State} (h : runningOf s.seq ≠ some .build) : BuildOk s := by
  refine ⟨fun hseq => absurd ?_ h, fun hseq => absurd ?_ h⟩
  · rw [hseq]; rfl
  · obtain hseq | hseq := hseq <;> rw [hseq] <;> rfl

/-! ## The ends of an event -/

theorem inv_of_engaged {s : State} {i : Instr} (hdata : DataOk s) (hrun : Engaged i s)
    (hseq : runningOf s.seq = some i) (hread : ReadOk s) (hbuild : BuildOk s) : Inv s := by
  obtain ⟨hbusy, hword, hfault, hcode, hinfo⟩ := hrun
  refine (inv_iff s).2 ⟨hdata, ⟨?_, fun _ => hword.trans hseq.symm, ?_, fun _ => hinfo, ?_⟩, hread, hbuild⟩
  · simp [hbusy, hseq]
  · simp [hfault, hcode]
  · simp [hfault]

/-- A command other than BUILD and READ_HEADER has no invariant of its own: its points are all alike. -/
theorem inv_of_plain {s : State} {i : Instr} (hdata : DataOk s) (hrun : Engaged i s)
    (hseq : runningOf s.seq = some i) (hread : i ≠ .readHeader) (hbuild : i ≠ .build) : Inv s :=
  inv_of_engaged hdata hrun hseq (readOk_of_not_readHeader (by simp [hseq, hread]))
    (buildOk_of_not_build (by simp [hseq, hbuild]))

/-- complete(p) of a command outside the fault state (R115). -/
theorem inv_complete {s : State} {i : Instr} (p : Phase) (hdata : DataOk s) (hrun : Engaged i s) :
    Inv (complete p s) := by
  obtain ⟨-, -, hfault, hcode, hinfo⟩ := hrun
  refine (inv_iff _).2 ⟨hdata, ⟨rfl, nofun, ?_, fun _ => hinfo, nofun⟩, trivial, buildOk_of_not_build nofun⟩
  simp [hfault, hcode]

/-- A fault taken in any state of sound data (R236). -/
theorem inv_raiseFault {s : State} {code : FaultCode} (info : Word) (hdata : DataOk s) (hcode : code ≠ .none) :
    Inv (raiseFault code info s) :=
  (inv_iff _).2 ⟨hdata, ⟨rfl, nofun, by simp [hcode], nofun, nofun⟩, trivial, buildOk_of_not_build nofun⟩

/-! ## What keeps the data: FIFOs and bit adapters -/

/-- Everything InPop can do (R140). -/
theorem inPop_cases (s : State) :
    (s.inFifo = [] ∧ inPop s = none) ∨
    ∃ x rest, s.inFifo = x :: rest ∧ inPop s = some (x, { s with inFifo := rest }) := by
  unfold inPop
  cases s.inFifo <;> simp

theorem DataOk.popped {s : State} {x : Token} {rest : List Token} (h : DataOk s) (hin : s.inFifo = x :: rest) :
    DataOk { s with inFifo := rest } := by
  obtain ⟨hparams, ⟨hlevel, hout⟩, hothers⟩ := h
  rw [hin, List.length_cons] at hlevel
  exact ⟨hparams, ⟨Nat.le_of_succ_le hlevel, hout⟩, hothers⟩

theorem outRoom_iff (s : State) : outRoom s = true ↔ s.outFifo.length < s.params.outDepth.toNat := by
  simp [outRoom]

theorem DataOk.outPush {s : State} (h : DataOk s) (hroom : outRoom s = true) (b : Byte) : DataOk (outPush b s) := by
  obtain ⟨hparams, ⟨hin, -⟩, hothers⟩ := h
  refine ⟨hparams, ⟨hin, ?_⟩, hothers⟩
  rw [outPush_outFifo, List.length_append]
  exact (outRoom_iff s).1 hroom

theorem DataOk.bitWriterReset {s : State} (h : DataOk s) : DataOk (bitWriterReset s) := by
  obtain ⟨hparams, hfifos, ⟨-, hreader⟩, hothers⟩ := h
  exact ⟨hparams, hfifos, ⟨Nat.one_pos, hreader⟩, hothers⟩

theorem DataOk.bitReaderReset {s : State} (h : DataOk s) : DataOk (bitReaderReset s) := by
  obtain ⟨hparams, hfifos, ⟨hwriter, -⟩, hothers⟩ := h
  exact ⟨hparams, hfifos, ⟨hwriter, Nat.zero_le 7⟩, hothers⟩

theorem DataOk.bitFlush {s : State} (h : DataOk s) (hroom : outRoom s = true) : DataOk (bitFlush s) :=
  (h.outPush hroom _).bitWriterReset

/-- A bit step of the writer keeps the held bits within their count (R142). -/
theorem writerStep_fits {buf : Byte} {cnt : BitVec 3} (h : buf.toNat < 2 ^ cnt.toNat) (b : Bool) :
    (writerStep buf cnt b).1.toNat < 2 ^ (writerStep buf cnt b).2.1.toNat := by
  by_cases hfull : cnt = 7#3
  · rw [hfull, writerStep_full]
    exact Nat.one_pos
  · rw [writerStep_open _ _ hfull]
    have hcnt : (cnt + 1#3).toNat = cnt.toNat + 1 := by bv_omega
    rw [hcnt]
    exact BitVec.toNat_shiftConcat_lt_of_lt (by omega) h

theorem DataOk.writeBit {s : State} (h : DataOk s) (hfree : writeBlocked s = false) (b : Bool) :
    DataOk (writeBit b s) := by
  obtain ⟨hparams, ⟨hin, hout⟩, ⟨hwriter, hreader⟩, hothers⟩ := h
  refine ⟨hparams, ⟨hin, ?_⟩, ⟨writerStep_fits hwriter b, hreader⟩, hothers⟩
  rw [writeBit_outFifo, writeBit_params, List.length_append]
  by_cases hfull : s.bwCnt = 7#3
  · have hroom : s.outFifo.length < s.params.outDepth.toNat := by
      simpa [writeBlocked, hfull, outRoom_iff] using hfree
    simpa [hfull, writerStep_full] using hroom
  · simpa [writerStep_open _ _ hfull] using hout

theorem DataOk.readHeld {s : State} (h : DataOk s) (hheld : s.brCnt ≠ 0#4) :
    DataOk { s with brCnt := s.brCnt - 1#4 } := by
  obtain ⟨hparams, hfifos, ⟨hwriter, hreader⟩, hothers⟩ := h
  refine ⟨hparams, hfifos, ⟨hwriter, ?_⟩, hothers⟩
  show (s.brCnt - 1#4).toNat ≤ 7
  bv_omega

theorem DataOk.readPopped {s : State} {x : Token} {rest : List Token} (h : DataOk s) (hin : s.inFifo = x :: rest)
    (b : Byte) : DataOk { s with inFifo := rest, brBuf := b, brCnt := 7#4 } := by
  obtain ⟨hparams, hfifos, ⟨hwriter, -⟩, hothers⟩ := h.popped hin
  exact ⟨hparams, hfifos, ⟨hwriter, Nat.le_refl 7⟩, hothers⟩

/-! ## What keeps the data: tables -/

theorem sum_set_add_getElem (l : List Nat) {i : Nat} (hi : i < l.length) (v : Nat) :
    (l.set i v).sum + l[i] = l.sum + v := by
  have hsum := List.sum_set l i l[i]
  rw [List.set_getElem_self] at hsum
  rw [List.sum_set, hsum]
  simp only [if_pos hi]
  omega

/-- A write of one entry moves the sum by the entry's change (R48). -/
theorem histSum_tabSet (t : Vector Word 256) (b : Byte) (v : Word) :
    histSum (tabSet t b v) + (tabGet t b).toNat = histSum t + v.toNat := by
  have hb : b.toNat < (t.toList.map BitVec.toNat).length := by simpa using b.isLt
  have h := sum_set_add_getElem _ hb v.toNat
  simpa [histSum, tabSet, tabGet, Vector.toList_set, List.map_set] using h

theorem histSum_clear : histSum (Vector.replicate 256 0#32) = 0 := by
  unfold histSum
  rw [Vector.toList_replicate, List.map_replicate, List.sum_replicate]
  rfl

theorem codesOk_clear (s : State) (hlen : s.codeLen = Vector.replicate 256 0#5)
    (hval : s.codeVal = Vector.replicate 256 0#31) : CodesOk s := by
  intro b
  rw [hlen, hval, tabGet_replicate, tabGet_replicate]
  exact Nat.one_pos

theorem dtabOk_clear (s : State) (hdtab : s.dtab = Vector.replicate 256 DtabEntry.zero) (hdnum : s.dnum = 0#9) :
    DtabOk s := by
  constructor <;> simp [hdtab, hdnum, DtabEntry.zero]

theorem CodesOk.setCode {s : State} (h : CodesOk s) (b : Byte) {len : BitVec 5} {val : BitVec 31}
    (hfit : val.toNat < 2 ^ len.toNat) : CodesOk (setCode b len val s) := by
  intro c
  rw [setCode_codeVal, setCode_codeLen]
  by_cases hc : b = c
  · subst hc
    simpa using hfit
  · simpa [tabGet_tabSet_ne _ _ hc] using h c

theorem DataOk.countInit {s : State} (h : DataOk s) : DataOk (countInit s) := by
  obtain ⟨hparams, hfifos, hadapters, -, hothers⟩ := h
  exact ⟨hparams, hfifos, hadapters, histSum_clear.symm, hothers⟩

/-- Below TOTAL = 2^32 - 1 neither increment wraps, for no entry of HIST is above the sum (R48, R160). -/
theorem HistOk.countByte {s : State} (h : HistOk s) (hmax : s.total ≠ 0xFFFFFFFF#32) (b : Byte) :
    HistOk (countByte b s) := by
  have hle : (tabGet s.hist b).toNat ≤ histSum s.hist :=
    List.le_sum_of_mem (List.mem_map_of_mem (Vector.mem_toList_iff.2 (Vector.getElem_mem b.isLt)))
  have hsum := histSum_tabSet s.hist b (tabGet s.hist b + 1#32)
  unfold HistOk at h ⊢
  rw [countByte_total, countByte_hist]
  bv_omega

theorem DataOk.countByte {s : State} (h : DataOk s) (hmax : s.total ≠ 0xFFFFFFFF#32) (b : Byte) :
    DataOk (countByte b s) := by
  obtain ⟨hparams, hfifos, hadapters, hhist, hothers⟩ := h
  exact ⟨hparams, hfifos, hadapters, hhist.countByte hmax b, hothers⟩

theorem DataOk.clearCodes {s : State} (h : DataOk s) : DataOk (clearCodes s) := by
  obtain ⟨hparams, hfifos, hadapters, hhist, -, hdtab⟩ := h
  exact ⟨hparams, hfifos, hadapters, hhist, codesOk_clear _ rfl rfl, hdtab⟩

theorem DataOk.setCode {s : State} (h : DataOk s) (b : Byte) {len : BitVec 5} {val : BitVec 31}
    (hfit : val.toNat < 2 ^ len.toNat) : DataOk (setCode b len val s) := by
  obtain ⟨hparams, hfifos, hadapters, hhist, hcodes, hdtab⟩ := h
  exact ⟨hparams, hfifos, hadapters, hhist, hcodes.setCode b hfit, hdtab⟩

theorem DataOk.singleCode {s : State} (h : DataOk s) (b : Byte) : DataOk (singleCode b s) :=
  h.setCode b (val := 0#31) (Nat.two_pow_pos _)

theorem DataOk.writePaths {s : State} (h : DataOk s) {ps : List LeafPath} (hfit : ∀ x ∈ ps, x.Fits)
    (hdepth : ∀ x ∈ ps, x.depth ≤ 31) : DataOk (writePaths ps s) := by
  refine List.foldlRecOn ps writePath h fun t ht x hx => ht.setCode x.sym ?_
  have hd := hdepth x hx
  have hp : x.path < 2 ^ x.depth := hfit x hx
  rw [BitVec.toNat_ofNat, BitVec.toNat_ofNat, Nat.mod_eq_of_lt (a := x.depth) (by omega)]
  exact (Nat.mod_le _ _).trans_lt hp

theorem Engaged.writePaths {i : Instr} {s : State} (h : Engaged i s) (ps : List LeafPath) :
    Engaged i (writePaths ps s) :=
  List.foldlRecOn (motive := Engaged i) ps writePath h fun _ ht _ _ => ht

theorem DataOk.clearDtab {s : State} (h : DataOk s) : DataOk (clearDtab s) := by
  obtain ⟨hparams, hfifos, hadapters, hhist, hcodes, -⟩ := h
  exact ⟨hparams, hfifos, hadapters, hhist, hcodes, fun _ => (dtabOk_clear _ rfl rfl).congr⟩

theorem DataOk.clearTables {s : State} (h : DataOk s) : DataOk (clearTables s) := by
  obtain ⟨hparams, hfifos, hadapters, -⟩ := h
  exact ⟨hparams, hfifos, hadapters, histSum_clear.symm, codesOk_clear _ rfl rfl,
    fun _ => (dtabOk_clear _ rfl rfl).congr⟩

theorem not_entryIs_of_duplicateOf {t : Vector DtabEntry 256} {n : Nat} {len : BitVec 5} {val : BitVec 31}
    (h : duplicateOf t n len val = none) {j : Byte} (hj : j.toNat < n) :
    (tabGet t j).len = len → (tabGet t j).val ≠ val := by
  have hne := List.find?_eq_none.1 h j.toNat (List.mem_range.2 hj)
  simpa [entryIs] using hne

/-- A new entry at DNUM, with a codeword no entry holds, keeps the decoder table sound (R195, R198). -/
theorem dtabOk_storeEntry {s : State} (h : DtabOk s) {e sym : Byte} {len : BitVec 5} {val : BitVec 31}
    (he : e.toNat = s.dnum.toNat) (hlen : len ≠ 0#5) (hval : val.toNat < 2 ^ len.toNat)
    (hnew : duplicateOf s.dtab e.toNat len val = none) : DtabOk (storeEntry e sym len val s) := by
  have hself : tabGet (storeEntry e sym len val s).dtab e = ⟨true, sym, len, val⟩ := tabGet_tabSet_self _ _ _
  have hold {j : Byte} (hj : j ≠ e) : tabGet (storeEntry e sym len val s).dtab j = tabGet s.dtab j :=
    tabGet_tabSet_ne _ _ (Ne.symm hj)
  have hdnum : (storeEntry e sym len val s).dnum.toNat = e.toNat + 1 := by
    show (BitVec.ofNat 9 (e.toNat + 1)).toNat = _
    rw [BitVec.toNat_ofNat, Nat.mod_eq_of_lt (by omega)]
  have hapart {j : Byte} (hj : j ≠ e) (hv : (tabGet s.dtab j).valid = true) :
      (tabGet s.dtab j).len = len → (tabGet s.dtab j).val ≠ val :=
    not_entryIs_of_duplicateOf hnew (he ▸ (h.valid_iff j).1 hv)
  constructor
  case dnum_le => omega
  case valid_iff =>
    intro j
    rw [hdnum]
    by_cases hj : j = e
    · simp [hj, hself]
    · rw [hold hj, h.valid_iff j, ← he]
      have hne : j.toNat ≠ e.toNat := fun heq => hj (BitVec.eq_of_toNat_eq heq)
      omega
  case len_pos =>
    intro j
    by_cases hj : j = e
    · simp [hj, hself, hlen]
    · rw [hold hj]
      exact h.len_pos j
  case val_lt =>
    intro j
    by_cases hj : j = e
    · simp [hj, hself, hval]
    · rw [hold hj]
      exact h.val_lt j
  case distinct =>
    intro i j
    by_cases hi : i = e <;> by_cases hj : j = e
    · simp [hi, hj]
    · rw [hi, hself, hold hj]
      exact fun _ hvj hl hv => absurd hv.symm (hapart hj hvj hl.symm)
    · rw [hj, hself, hold hi]
      exact fun hvi _ hl hv => absurd hv (hapart hi hvi hl)
    · rw [hold hi, hold hj]
      exact h.distinct i j

theorem DataOk.storeEntry {s : State} (h : DataOk s) {e sym : Byte} {len : BitVec 5} {val : BitVec 31}
    (he : e.toNat = s.dnum.toNat) (hlen : len ≠ 0#5) (hval : val.toNat < 2 ^ len.toNat)
    (hnew : duplicateOf s.dtab e.toNat len val = none) : DataOk (storeEntry e sym len val s) := by
  have hentries := dtabOk_storeEntry h.dtabOk (sym := sym) he hlen hval hnew
  obtain ⟨hparams, hfifos, hadapters, hhist, hcodes, -⟩ := h
  exact ⟨hparams, hfifos, hadapters, hhist, hcodes, fun _ => hentries.congr⟩

/-! ## The events of the commands -/

/-- No fault of the model's own, and a next state of the invariant. -/
def Safe : Host.Outcome State Fault Refusal → Prop
  | .next t => Inv t
  | .fault _ => False
  | .refused _ => True

theorem inv_clearEvent {s : State} (h : DataOk s) : Inv (clearEvent s) := by
  have hcontrol : ControlOk (clearEvent s) := ⟨rfl, nofun, by simp [clearEvent, leaveFault], fun _ => rfl, nofun⟩
  exact (inv_iff _).2
    ⟨h.clearTables.bitWriterReset.bitReaderReset, hcontrol, trivial, buildOk_of_not_build nofun⟩

theorem inv_countEvent {s : State} {p : CountPt} (h : Inv s) (hbusy : s.busy = true) (hseq : s.seq = .count p) :
    Inv (countEvent p s) := by
  have hdata := h.dataOk
  have hrun : Engaged .count s := h.engaged hbusy (by rw [hseq]; rfl) nofun
  cases p with
  | start => exact inv_of_plain hdata.countInit hrun rfl nofun nofun
  | pop =>
    obtain ⟨-, hpop⟩ | ⟨x, rest, hin, hpop⟩ := inPop_cases s
    · simpa only [countEvent, hpop] using h
    · cases x <;> simp only [countEvent, hpop] <;>
        exact inv_of_plain (hdata.popped hin) hrun rfl nofun nofun
  | tally b =>
    by_cases hmax : s.total = 0xFFFFFFFF#32
    · simp only [countEvent, if_pos hmax]
      exact inv_raiseFault _ hdata nofun
    · simp only [countEvent, if_neg hmax]
      exact inv_of_plain (hdata.countByte hmax b) hrun rfl nofun nofun
  | done => exact inv_complete _ hdata hrun

theorem inv_writeEvent {s : State} {p : WritePt} (h : Inv s) (hbusy : s.busy = true)
    (hseq : s.seq = .writeHeader p) : Inv (writeEvent p s) := by
  have hdata := h.dataOk
  have hrun : Engaged .writeHeader s := h.engaged hbusy (by rw [hseq]; rfl) nofun
  have hfield (f : WField) : Inv (startField f s) := inv_of_plain hdata hrun rfl nofun nofun
  match p with
  | .start => exact inv_of_plain hdata.bitWriterReset hrun rfl nofun nofun
  | .bits f 0 =>
    cases f with
    | magic i =>
      simp only [writeEvent, afterField]
      split <;> exact hfield _
    | numEntries => exact inv_of_plain hdata hrun rfl nofun nofun
    | sym b => exact hfield _
    | len b => exact hfield _
    | val b => exact inv_of_plain hdata hrun rfl nofun nofun
    | payload => exact inv_complete _ hdata hrun
  | .bits f (n + 1) =>
    cases hfree : writeBlocked s with
    | true => simpa only [writeEvent, hfree, if_true] using h
    | false =>
      simp only [writeEvent, hfree]
      exact inv_of_plain (hdata.writeBit hfree _) hrun rfl nofun nofun
  | .scan k =>
    simp only [writeEvent, scanSymbol]
    split
    · split <;> exact inv_of_plain hdata hrun rfl nofun nofun
    · exact inv_of_plain hdata hrun rfl nofun nofun

theorem inv_encodeEvent {s : State} {p : EncodePt} (h : Inv s) (hbusy : s.busy = true)
    (hseq : s.seq = .encode p) : Inv (encodeEvent p s) := by
  have hdata := h.dataOk
  have hrunning : runningOf s.seq = some .encode := by rw [hseq]; rfl
  have hrun : Engaged .encode s := h.engaged hbusy hrunning nofun
  match p with
  | .pop =>
    obtain ⟨-, hpop⟩ | ⟨x, rest, hin, hpop⟩ := inPop_cases s
    · simpa only [encodeEvent, hpop] using h
    · cases x <;> simp only [encodeEvent, hpop] <;>
        exact inv_of_plain (hdata.popped hin) hrun rfl nofun nofun
  | .eos =>
    simp only [encodeEvent, encodeEos]
    split
    · exact inv_of_plain hdata hrun rfl nofun nofun
    · exact inv_raiseFault _ hdata nofun
  | .sym b =>
    simp only [encodeEvent, encodeByte]
    split
    · exact inv_raiseFault _ hdata nofun
    · split
      · exact inv_raiseFault _ hdata nofun
      · exact inv_of_plain hdata hrun rfl nofun nofun
  | .write v 0 => exact inv_of_plain hdata hrun rfl nofun nofun
  | .write v (n + 1) =>
    cases hfree : writeBlocked s with
    | true => simpa only [encodeEvent, hfree, if_true] using h
    | false =>
      simp only [encodeEvent, hfree]
      exact inv_of_plain (hdata.writeBit hfree _) hrun rfl nofun nofun
  | .flush =>
    simp only [encodeEvent, encodeFlush]
    split
    · exact inv_complete _ hdata hrun
    · split
      next hroom => exact inv_of_plain (hdata.bitFlush hroom) hrun hrunning nofun nofun
      next => exact h

theorem inv_decodeEvent {s : State} {p : DecodePt} (h : Inv s) (hbusy : s.busy = true)
    (hseq : s.seq = .decode p) : Inv (decodeEvent p s) := by
  have hdata := h.dataOk
  have hrun : Engaged .decode s := h.engaged hbusy (by rw [hseq]; rfl) nofun
  cases p with
  | next =>
    simp only [decodeEvent, decodeNext]
    split
    · exact inv_of_plain hdata hrun rfl nofun nofun
    · exact inv_complete _ hdata hrun
  | bit =>
    obtain ⟨-, -, hbit⟩ | ⟨rest, -, hin, hbit⟩ | ⟨b, rest, -, hin, hbit⟩ | ⟨hheld, hbit⟩ := readBit_cases s <;>
      simp only [decodeEvent, hbit]
    · exact h
    · exact inv_of_plain (hdata.popped hin) hrun rfl nofun nofun
    · exact inv_of_plain (hdata.readPopped hin b) hrun rfl nofun nofun
    · exact inv_of_plain (hdata.readHeld hheld) hrun rfl nofun nofun
  | look =>
    simp only [decodeEvent, decodeLook]
    split
    · exact inv_of_plain hdata hrun rfl nofun nofun
    · split
      · exact inv_raiseFault _ hdata nofun
      · exact inv_of_plain hdata hrun rfl nofun nofun
  | push sym =>
    simp only [decodeEvent]
    split
    next hroom => exact inv_of_plain (hdata.outPush hroom sym) hrun rfl nofun nofun
    next => exact h
  | bump => exact inv_of_plain hdata hrun rfl nofun nofun
  | underflow => exact inv_raiseFault _ hdata nofun

/-! ## BUILD -/

theorem present_length_le (h : Vector Word 256) : (present h).length ≤ 256 := by
  have hle := List.length_filter_le (fun b => tabGet h b != 0#32) ((List.range 256).map (BitVec.ofNat 8))
  rwa [List.length_map, List.length_range] at hle

/-- After MakeLeaves for k symbols the loop has room: k nodes in QUEUE, and NEXT_SEQ = k (R47, R172). -/
theorem buildOk_makeLeaves {s : State} {bs : List Byte} (hbs : bs.length ≤ 256) :
    BuildOk (goto (.build .merge) (makeLeaves bs (clearCodes s))) := by
  refine ⟨fun _ => ?_, fun _ => ⟨rfl, rfl, rfl⟩⟩
  show ((List.range bs.length).map (BitVec.ofNat 9)).length + (BitVec.ofNat 9 bs.length).toNat ≤ 512
  rw [List.length_map, List.length_range, BitVec.toNat_ofNat, Nat.mod_eq_of_lt (by omega)]
  omega

/-- A Merge takes two nodes off QUEUE, adds one and advances NEXT_SEQ, so the room stays (R174). -/
theorem BuildOk.mergeInto {s : State} (h : BuildOk s) (hseq : s.seq = .build .merge) {r l : NodeIx}
    {q : List NodeIx} (hlen : q.length + 2 = s.queue.length) : BuildOk (mergeInto r l q s) := by
  refine ⟨fun _ => ?_, h.clear⟩
  have hroom := h.room hseq
  show (q ++ [s.nextSeq]).length + (s.nextSeq + 1#9).toNat ≤ 512
  rw [List.length_append, List.length_singleton]
  bv_omega

theorem inv_buildStart {s : State} (hdata : DataOk s) (hrun : Engaged .build s) : Inv (buildStart s) := by
  unfold buildStart
  split
  · exact inv_complete _ (hdata.clearCodes.singleCode _) hrun
  · exact inv_complete _ (hdata.clearCodes.singleCode _) hrun
  · exact inv_of_engaged hdata.clearCodes hrun rfl trivial (buildOk_makeLeaves (present_length_le _))

theorem inv_flattenTree {s : State} (hdata : DataOk s) (hrun : Engaged .build s) : Inv (flattenTree s) := by
  obtain ⟨b, -, heq⟩ | ⟨hshort, heq⟩ := flattenTree_cases s <;> rw [heq]
  · exact inv_raiseFault _ hdata.clearCodes nofun
  · have hpaths := hdata.writePaths (fits_of_mem_leafPaths _ _ _) ((tooLong_eq_none_iff _).1 hshort)
    exact inv_complete _ hpaths (hrun.writePaths _)

theorem safe_buildEvent {s : State} {p : BuildPt} (h : Inv s) (hbusy : s.busy = true) (hseq : s.seq = .build p) :
    Safe (buildEvent p s) := by
  have hdata := h.dataOk
  have hrunning : runningOf s.seq = some .build := by rw [hseq]; rfl
  have hrun : Engaged .build s := h.engaged hbusy hrunning nofun
  cases p with
  | start => exact inv_buildStart hdata hrun
  | merge =>
    obtain ⟨-, heq⟩ | ⟨r, l, q, htwo, -, heq⟩ | ⟨r, l, q, htwo, hfull, -⟩ := mergeEvent_cases s
    · simp only [buildEvent, heq]
      exact inv_of_engaged hdata hrun rfl trivial ⟨nofun, fun _ => h.build.clear (.inl hseq)⟩
    · obtain ⟨-, -, -, hlen⟩ := extractTwo_some htwo
      simp only [buildEvent, heq]
      exact inv_of_engaged hdata hrun hrunning (readOk_of_not_readHeader (by simp [mergeInto, hrunning]))
        (h.build.mergeInto hseq hlen)
    · obtain ⟨-, -, -, hlen⟩ := extractTwo_some htwo
      have hroom := h.build.room hseq
      omega
  | flatten => exact inv_flattenTree hdata hrun

/-! ## READ_HEADER -/

theorem readWidth_le (f : RField) : readWidth f ≤ 32 := by
  cases f with
  | val e n sym len => exact Nat.le_of_lt (len.isLt)
  | _ => simp [readWidth]

theorem entryCount_bounds (b : Byte) : 0 < entryCount b ∧ entryCount b ≤ 256 := by
  unfold entryCount
  split <;> bv_omega

theorem FieldOk.congr {s t : State} {f : RField} (h : FieldOk s f) (hdnum : t.dnum = s.dnum) : FieldOk t f := by
  unfold FieldOk
  rw [hdnum]
  exact h

/-- The engine at the start of the BitRead of a field whose local variables agree with DNUM and PROGRESS (R195). -/
theorem inv_startRead {s : State} {f : RField} (hdata : DataOk s) (hrun : Engaged .readHeader s)
    (hcount : s.progress.toNat = s.dnum.toNat) (hfield : FieldOk s f) : Inv (startRead f s) := by
  refine inv_of_engaged hdata hrun rfl ⟨Nat.le_refl _, ?_, hcount, hfield.congr rfl⟩ (buildOk_of_not_build nofun)
  rw [Nat.sub_self]
  exact Nat.one_pos

theorem inv_afterCode {s : State} {e sym : Byte} {n : Nat} {len : BitVec 5} {val : BitVec 31} (hdata : DataOk s)
    (hrun : Engaged .readHeader s) (hfield : FieldOk s (.val e n sym len)) (hval : val.toNat < 2 ^ len.toNat) :
    Inv (afterCode e n sym len val s) := by
  obtain ⟨he, hlt, hn, hlen⟩ := hfield
  unfold afterCode
  split
  next => exact inv_raiseFault _ hdata nofun
  next hnew =>
    have hstored : DataOk (storeEntry e sym len val s) := hdata.storeEntry he hlen hval hnew
    have hdnum : (storeEntry e sym len val s).dnum.toNat = e.toNat + 1 :=
      (BitVec.toNat_ofNat _ _).trans (Nat.mod_eq_of_lt (by omega))
    have hprogress : (storeEntry e sym len val s).progress.toNat = e.toNat + 1 :=
      (BitVec.toNat_ofNat _ _).trans (Nat.mod_eq_of_lt (by omega))
    split
    · refine inv_startRead hstored hrun (hprogress.trans hdnum.symm) ⟨?_, ?_, hn⟩
      · rw [hdnum]; bv_omega
      · bv_omega
    · exact inv_startRead hstored hrun (hprogress.trans hdnum.symm) trivial

theorem inv_afterRead {s : State} {f : RField} {v : Word} (hdata : DataOk s) (hrun : Engaged .readHeader s)
    (hcount : s.progress.toNat = s.dnum.toNat) (hfield : FieldOk s f) (hv : v.toNat < 2 ^ readWidth f) :
    Inv (afterRead f v s) := by
  cases f with
  | magic m =>
    obtain ⟨-, hdnum⟩ := hfield
    simp only [afterRead, checkMagic]
    split
    next hlt => exact inv_startRead hdata hrun hcount ⟨by simpa using hlt, hdnum⟩
    next =>
      split
      · exact inv_raiseFault _ hdata nofun
      · exact inv_startRead hdata hrun hcount hdnum
  | numEntries =>
    have hdnum : s.dnum = 0#9 := hfield
    obtain ⟨hpos, hle⟩ := entryCount_bounds (v.setWidth 8)
    exact inv_startRead hdata hrun hcount ⟨by rw [hdnum]; rfl, hpos, hle⟩
  | sym e n => exact inv_startRead hdata hrun hcount hfield
  | len e n sym =>
    obtain ⟨he, hlt, hn⟩ := hfield
    simp only [afterRead]
    split
    next => exact inv_raiseFault _ hdata nofun
    next hlen => exact inv_startRead hdata hrun hcount ⟨he, hlt, hn, hlen⟩
  | val e n sym len =>
    refine inv_afterCode hdata hrun hfield ?_
    rw [BitVec.toNat_setWidth]
    exact (Nat.mod_le _ _).trans_lt hv
  | payload => exact inv_complete _ hdata hrun

/-- One more bit of a field keeps the accumulator within the bits read (R145). -/
theorem accShift_lt {acc : Word} {n w : Nat} (hw : w ≤ 32) (hn : n + 1 ≤ w) (hacc : acc.toNat < 2 ^ (w - (n + 1)))
    (b : Bool) : (accShift acc b).toNat < 2 ^ (w - n) := by
  rw [show w - n = w - (n + 1) + 1 by omega]
  exact BitVec.toNat_shiftConcat_lt_of_lt (by omega) hacc

/-- The engine inside a BitRead, after one more bit (R145). -/
theorem inv_nextBit {s : State} {f : RField} {n : Nat} {acc : Word} (hdata : DataOk s)
    (hrun : Engaged .readHeader s) (hn : n + 1 ≤ readWidth f) (hacc : acc.toNat < 2 ^ (readWidth f - (n + 1)))
    (hcount : s.progress.toNat = s.dnum.toNat) (hfield : FieldOk s f) (b : Bool) :
    Inv (goto (.readHeader (.bits f n (accShift acc b))) s) :=
  inv_of_engaged hdata hrun rfl
    ⟨Nat.le_of_succ_le hn, accShift_lt (readWidth_le f) hn hacc b, hcount, hfield.congr rfl⟩
    (buildOk_of_not_build nofun)

theorem inv_readEvent {s : State} {p : ReadPt} (h : Inv s) (hbusy : s.busy = true)
    (hseq : s.seq = .readHeader p) : Inv (readEvent p s) := by
  have hdata := h.dataOk
  have hrun : Engaged .readHeader s := h.engaged hbusy (by rw [hseq]; rfl) nofun
  have hread := h.read
  unfold ReadOk at hread
  rw [hseq] at hread
  match p with
  | .start =>
    have hprogress : s.progress = 0#32 := hread
    refine inv_startRead hdata.bitReaderReset.clearDtab hrun ?_ ⟨Nat.succ_pos 7, rfl⟩
    show s.progress.toNat = 0
    rw [hprogress]; rfl
  | .bits f 0 acc =>
    obtain ⟨-, hacc, hcount, hfield⟩ := hread
    exact inv_afterRead hdata hrun hcount hfield hacc
  | .bits f (n + 1) acc =>
    obtain ⟨hn, hacc, hcount, hfield⟩ := hread
    obtain ⟨-, -, hbit⟩ | ⟨rest, -, hin, hbit⟩ | ⟨b, rest, -, hin, hbit⟩ | ⟨hheld, hbit⟩ := readBit_cases s <;>
      simp only [readEvent, hbit]
    · exact h
    · exact inv_of_engaged (hdata.popped hin) hrun rfl hcount (buildOk_of_not_build nofun)
    · exact inv_nextBit (hdata.readPopped hin b) hrun hn hacc hcount (hfield.congr rfl) _
    · exact inv_nextBit (hdata.readHeld hheld) hrun hn hacc hcount (hfield.congr rfl) _
  | .underflow => exact inv_raiseFault _ hdata nofun

/-! ## Acceptance, and the events of the engine -/

theorem decode_encode (i : Instr) : decode (encode i) = some i := by
  cases i <;> decide

theorem encode_inj {i j : Instr} (h : encode i = encode j) : i = j := by
  have hdec := congrArg decode h
  rwa [decode_encode, decode_encode, Option.some.injEq] at hdec

theorem runningOf_startOf (i : Instr) : runningOf (startOf i) = some i := by
  cases i <;> rfl

/-- An event that changes the surroundings of the engine and the FIFOs alone keeps the invariant, if the FIFOs hold at
most their depth after it. -/
theorem Inv.surroundings {s t : State} (h : Inv s) (hfifos : FifoBounds t)
    (ht : t = { s with
      intEn := t.intEn, intStatus := t.intStatus, index := t.index, cmdIgn := t.cmdIgn, inFifo := t.inFifo,
      inOvf := t.inOvf, outFifo := t.outFifo, program := t.program, reads := t.reads, turns := t.turns,
      draws := t.draws }) : Inv t := by
  obtain ⟨⟨hparams, -, hdata⟩, ⟨hbusy, hword, hfault, hinfo, hclear⟩, hread, ⟨hroom, htable⟩⟩ := (inv_iff s).1 h
  rw [ht] at hfifos ⊢
  exact (inv_iff _).2 ⟨⟨hparams, hfifos, hdata⟩, ⟨hbusy, hword, hfault, hinfo, hclear⟩, hread, ⟨hroom, htable⟩⟩

theorem Inv.withProgram {s : State} (h : Inv s) (ls : List HostLine) : Inv { s with program := ls } :=
  h.surroundings h.fifos rfl

theorem inv_accept {s : State} {i : Instr} (h : Inv s) (hidle : ignores (encode i) s = false) :
    Inv (goto (startOf i) (acceptWord (encode i) s)) := by
  have hseq := runningOf_startOf i
  refine (inv_iff _).2 ⟨h.dataOk, ⟨?_, ?_, h.control.fault_iff, h.control.info_zero, ?_⟩, ?_, ?_⟩
  · simp [hseq]
  · simp [hseq, decode_encode]
  · intro hfault _
    have hclear : i = .clear := by
      by_contra hne
      exact Bool.false_ne_true (hidle.symm.trans ((ignores_iff _ s).2 (.inr ⟨hfault, hne ∘ encode_inj⟩)))
    simp [hclear, startOf]
  · cases i with
    | readHeader => rfl
    | _ => trivial
  · cases i <;> exact ⟨nofun, nofun⟩

theorem inv_ignoreWord {s : State} (h : Inv s) : Inv (ignoreWord s) := h.surroundings h.fifos rfl

theorem inv_offer {s : State} (h : Inv s) (i : Instr) : Inv (offer i s) := by
  obtain ⟨-, heq⟩ | ⟨hidle, -, heq⟩ | ⟨-, -, heq⟩ := offer_cases i s <;> rw [heq]
  · exact inv_ignoreWord h
  · exact inv_accept h hidle
  · exact inv_raiseFault _ h.dataOk nofun

theorem safe_exec {s : State} (h : Inv s) (i : Instr) : Safe (exec i s) := by
  obtain heq | ⟨hbusy, hrun⟩ := exec_cases i s
  · rw [heq]
    exact inv_offer h i
  · cases hseq : s.seq <;> rw [hseq] at hrun <;> cases hrun
    · rw [exec_clear_running hbusy hseq]; exact inv_clearEvent h.dataOk
    · rw [exec_count_running hbusy hseq]; exact inv_countEvent h hbusy hseq
    · rw [exec_build_running hbusy hseq]; exact safe_buildEvent h hbusy hseq
    · rw [exec_writeHeader_running hbusy hseq]; exact inv_writeEvent h hbusy hseq
    · rw [exec_encode_running hbusy hseq]; exact inv_encodeEvent h hbusy hseq
    · rw [exec_readHeader_running hbusy hseq]; exact inv_readEvent h hbusy hseq
    · rw [exec_decode_running hbusy hseq]; exact inv_decodeEvent h hbusy hseq

theorem safe_engineStep {s : State} (h : Inv s) : Safe (engineStep s) := by
  unfold engineStep
  split
  · exact safe_exec h _
  · exact h

/-! ## The events of the host -/

theorem inv_powerOn {p : Params} (hp : p.wellFormed = true) : Inv (State.powerOn p) := by
  have hdata : DataOk (State.powerOn p) := ⟨hp, ⟨Nat.zero_le _, Nat.zero_le _⟩, ⟨Nat.one_pos, Nat.zero_le 7⟩,
    histSum_clear.symm, codesOk_clear _ rfl rfl, fun _ => (dtabOk_clear _ rfl rfl).congr⟩
  have hcontrol : ControlOk (State.powerOn p) := ⟨rfl, nofun, by simp [State.powerOn], fun _ => rfl, nofun⟩
  exact (inv_iff _).2 ⟨hdata, hcontrol, trivial, buildOk_of_not_build nofun⟩

theorem inv_resetEvent {s : State} (h : Inv s) : Inv (resetEvent s) :=
  (inv_powerOn h.params).surroundings (inv_powerOn h.params).fifos rfl

theorem inv_pushToken {s : State} (h : Inv s) (x : Token) : Inv (pushToken x s) := by
  obtain ⟨hroom, heq⟩ | ⟨-, heq⟩ := pushToken_cases x s <;> rw [heq]
  · exact h.surroundings ⟨by simpa using hroom, h.fifos.2⟩ rfl
  · exact h.surroundings h.fifos rfl

theorem inv_inFlush {s : State} (h : Inv s) : Inv (inFlush s) := h.surroundings ⟨Nat.zero_le _, h.fifos.2⟩ rfl

theorem inv_outFlush {s : State} (h : Inv s) : Inv (outFlush s) := h.surroundings ⟨h.fifos.1, Nat.zero_le _⟩ rfl

theorem inv_writeFifoCtrl {s : State} (h : Inv s) (v : Word) : Inv (writeFifoCtrl v s) := by
  have hif {c : Bool} {t u : State} (ht : Inv t) (hu : Inv u) : Inv (if c then t else u) := by
    cases c <;> assumption
  have hflush := hif (c := v.getLsbD 1) (inv_inFlush h) h
  have hpush := hif (c := v.getLsbD 0) (inv_pushToken hflush .eos) hflush
  exact hif (inv_outFlush hpush) hpush

theorem safe_writeCmd {s : State} (h : Inv s) (w : Word) : Safe (writeCmd w s) := by
  unfold writeCmd offerIllegal
  split
  next => exact inv_ignoreWord h
  next =>
    split
    · exact inv_raiseFault _ h.dataOk nofun
    · exact safe_exec h _

theorem safe_writeReg {s : State} (h : Inv s) (r : Reg) (v : Word) : Safe (writeReg r v s) := by
  cases r with
  | ctrl =>
    simp only [writeReg]
    split
    · exact inv_resetEvent h
    · exact h
  | cmd => exact safe_writeCmd h v
  | intEn | intStatus | index => exact h.surroundings h.fifos rfl
  | inData => exact inv_pushToken h _
  | fifoCtrl => exact inv_writeFifoCtrl h v
  | _ => exact h

theorem inv_readReg {s : State} (h : Inv s) (r : Reg) : Inv (readReg r s).2 := by
  have hpop : s.outFifo.tail.length ≤ s.params.outDepth.toNat :=
    (List.length_tail ▸ Nat.sub_le _ _).trans h.fifos.2
  unfold readReg
  split
  · exact h.surroundings h.fifos rfl
  · split
    · exact h.surroundings ⟨h.fifos.1, hpop⟩ rfl
    · exact h

theorem safe_writeOffset {s : State} (h : Inv s) (off : Nat) (v : Word) : Safe (writeOffset off v s) := by
  unfold writeOffset
  split
  · exact safe_writeReg h _ v
  · exact h

theorem inv_readOffset {s : State} (h : Inv s) (off : Nat) : Inv (readOffset off s).2 := by
  unfold readOffset
  split
  · exact inv_readReg h _
  · exact h

theorem safe_performAccess {s : State} (h : Inv s) (a : BusAccess) (line : HostLine) (rest : List HostLine) :
    Safe (performAccess a line rest s) := by
  unfold performAccess
  split
  · trivial
  · split
    · exact safe_writeOffset (h.withProgram _) _ _
    · exact (inv_readOffset h _).surroundings (inv_readOffset h _).fifos rfl

theorem safe_hostStep {s : State} (h : Inv s) : Safe (hostStep s) := by
  unfold hostStep
  split
  · exact h
  · exact inv_resetEvent (h.withProgram _)
  · split
    · exact h.withProgram _
    · exact safe_performAccess h _ _ _

/-! ## Every step -/

theorem safe_step {s : State} (h : Inv s) : Safe (step s) := by
  have hchosen (ts : List Agent) (n : Nat) : Inv { s with turns := ts, draws := n } := h.surroundings h.fifos rfl
  obtain ⟨-, -, heq⟩ | ⟨-, ts, n, heq⟩ | ⟨-, ts, n, heq⟩ := step_cases s <;> rw [heq]
  · exact h
  · exact safe_hostStep (hchosen ts n)
  · exact safe_engineStep (hchosen ts n)

/-- Settles O57: by the cases of a step, each event of host and engine keeps the invariant, and BUILD's room for its
merges shuts out the model's fault. -/
theorem stepKeepsInv : Obligations.StepKeepsInv := by
  intro s h
  have hsafe := safe_step h
  refine ⟨fun t ht => ?_, fun r hr => ?_⟩
  · rwa [ht] at hsafe
  · rwa [hr] at hsafe

end Sys2Proof.Machine

/-! PROOFS. The register window: what each register reads as, what an access does, the two resets (spec/10_state.md
R22 to R43, R54, R61, R65, R260, R261), and the acceptance of a command by a step (R110). -/

namespace Sys2Proof.Machine

open Sys2Proof

/-! ## Register words as numbers -/

theorem toNat_append_eq {m n : Nat} (x : BitVec m) (y : BitVec n) :
    (x ++ y).toNat = x.toNat * 2 ^ n + y.toNat := by
  rw [BitVec.toNat_append, ← Nat.shiftLeft_add_eq_or_of_lt y.isLt, Nat.shiftLeft_eq]

theorem toNat_statusWord (s : State) :
    (statusWord s).toNat = s.busy.toNat + 2 * s.fault.toNat + 4 * s.cmdIgn.toNat + 16 * (phaseBits s.phase).toNat +
      256 * (faultBits s.faultCode).toNat + 4096 * (waitIn s).toNat + 8192 * (waitOut s).toNat := by
  simp only [statusWord, toNat_append_eq, BitVec.toNat_ofBool, BitVec.ofNat_eq_ofNat, BitVec.toNat_ofNat]
  omega

theorem toNat_configWord (s : State) :
    (configWord s).toNat = s.params.inDepth.toNat + 4096 * s.params.outDepth.toNat + 16777216 * 31 := by
  simp only [configWord, toNat_append_eq, BitVec.ofNat_eq_ofNat, BitVec.toNat_ofNat]
  omega

theorem toNat_dtabSymWord (d : DtabEntry) :
    (dtabSymWord d).toNat = d.sym.toNat + 256 * d.len.toNat + 2147483648 * d.valid.toNat := by
  simp only [dtabSymWord, toNat_append_eq, BitVec.toNat_ofBool, BitVec.ofNat_eq_ofNat, BitVec.toNat_ofNat]
  omega

theorem toNat_outDataWord {s : State} {b : Byte} {bs : List Byte} (h : s.outFifo = b :: bs) :
    (outDataWord s).toNat = 256 + b.toNat := by
  simp only [outDataWord, h, toNat_append_eq, BitVec.ofNat_eq_ofNat, BitVec.toNat_ofNat]
  omega

theorem outDataWord_empty {s : State} (h : s.outFifo = []) : outDataWord s = 0#32 := by
  simp [outDataWord, h]

theorem toNat_inLevel {s : State} (h : FifoBounds s) : (inLevel s).toNat = s.inFifo.length := by
  have hlevel := h.1
  rw [inLevel, BitVec.toNat_ofNat]
  omega

theorem toNat_outLevel {s : State} (h : FifoBounds s) : (outLevel s).toNat = s.outFifo.length := by
  have hlevel := h.2
  rw [outLevel, BitVec.toNat_ofNat]
  omega

theorem inFull_eq {s : State} (h : FifoBounds s) :
    inFull s = decide (s.inFifo.length = s.params.inDepth.toNat) := by
  rw [Bool.eq_iff_iff]
  simp [inFull, ← toNat_inLevel h, BitVec.toNat_inj]

theorem outEmpty_eq {s : State} (h : FifoBounds s) : outEmpty s = decide (s.outFifo.length = 0) := by
  rw [Bool.eq_iff_iff]
  simp [outEmpty, ← toNat_outLevel h, ← BitVec.toNat_inj]

theorem toNat_fifoStatusWord {s : State} (h : FifoBounds s) :
    (fifoStatusWord s).toNat = s.inFifo.length + 4096 * s.outFifo.length +
      16777216 * (decide (s.inFifo.length = s.params.inDepth.toNat)).toNat +
      33554432 * (decide (s.outFifo.length = 0)).toNat + 67108864 * s.inOvf.toNat := by
  rw [← inFull_eq h, ← outEmpty_eq h, ← toNat_inLevel h, ← toNat_outLevel h]
  simp only [fifoStatusWord, toNat_append_eq, BitVec.toNat_ofBool, BitVec.ofNat_eq_ofNat, BitVec.toNat_ofNat]
  omega

/-! ## The waits -/

theorem nextIsInPop_iff (s : State) : nextIsInPop s = true ↔
    s.seq = .count .pop ∨ s.seq = .encode .pop ∨
      (s.brCnt = 0#4 ∧ (s.seq = .decode .bit ∨ ∃ f n a, s.seq = .readHeader (.bits f (n + 1) a))) := by
  unfold nextIsInPop
  split <;> simp_all

theorem nextIsOutPush_iff (s : State) : nextIsOutPush s = true ↔
    (s.bwCnt = 7#3 ∧ ((∃ f n, s.seq = .writeHeader (.bits f (n + 1))) ∨
        ∃ v n, s.seq = .encode (.write v (n + 1)))) ∨
      (s.bwCnt ≠ 0#3 ∧ s.seq = .encode .flush) ∨ ∃ b, s.seq = .decode (.push b) := by
  unfold nextIsOutPush
  split <;> simp_all

theorem waitIn_iff (s : State) : waitIn s = true ↔ s.busy = true ∧ s.inFifo = [] ∧ nextIsInPop s = true := by
  simp [waitIn, and_assoc, and_comm (a := nextIsInPop s = true)]

theorem waitOut_iff (s : State) : waitOut s = true ↔
    s.busy = true ∧ s.params.outDepth.toNat ≤ s.outFifo.length ∧ nextIsOutPush s = true := by
  simp [waitOut, outRoom, and_assoc, and_comm (a := nextIsOutPush s = true)]

/-- Settles O51: both words field by field, and the waits from the sequencer positions at an InPop or an OutPush. -/
theorem statusLayouts : Obligations.StatusLayouts := by
  refine ⟨fun s => ⟨toNat_statusWord s, toNat_fifoStatusWord, ?_, ?_⟩, rfl, rfl⟩
  · rw [waitIn_iff, nextIsInPop_iff]
  · rw [waitOut_iff, nextIsOutPush_iff]

/-! ## Reads and writes of the host -/

theorem readReg_busy {s : State} {r : Reg} {m : Word} (hbusy : s.busy = true) (hmask : busyMask r = some m) :
    readReg r s = (Config.freeWord s.draws &&& m, { s with draws := s.draws + 1 }) := by
  simp only [readReg, hbusy, hmask]

/-- A read that is not one of R54's unspecified ones returns the register's value (R120). -/
theorem readReg_defined {s : State} {r : Reg} (hdef : s.busy = false ∨ busyMask r = none) (hr : r ≠ .outData) :
    readReg r s = (regValue r s, s) := by
  unfold readReg
  split
  next hbusy hmask => obtain h | h := hdef <;> simp_all
  next => split <;> simp_all

theorem readReg_outData (s : State) :
    readReg .outData s = (regValue .outData s, { s with outFifo := s.outFifo.tail }) := by
  cases h : s.busy <;> simp [readReg, busyMask, h]

theorem hostStep_rd_defined {s : State} {r : Reg} {rest : List HostLine} (hprog : s.program = .rd r :: rest)
    (hdef : s.busy = false ∨ busyMask r = none) (hr : r ≠ .outData) :
    hostStep s = .next { s with program := rest, reads := s.reads ++ [(regOffset r, regValue r s)] } := by
  rw [hostStep_rd hprog, readReg_defined hdef hr]

/-- Settles O52: a read is unspecified, defined or OUT_DATA's, and each register word is the sum of its fields. -/
theorem registerReads : Obligations.RegisterReads := by
  refine ⟨fun s rest r hprog => ?_, rfl, fun s => ?_⟩
  · refine ⟨fun m hbusy hm => ?_, fun hr => ?_, fun hbusy => hostStep_rd_defined hprog (.inl hbusy), fun hr => ?_⟩
    · have hmask : busyMask r = some m := (by decide : ∀ x ∈ _, busyMask x.1 = some x.2) (r, m) hm
      refine ⟨Config.freeWord s.draws &&& m, by simp [BitVec.and_assoc], ?_⟩
      rw [hostStep_rd hprog, readReg_busy hbusy hmask]
    · obtain ⟨hmask, hne⟩ := (by decide : ∀ x ∈ _, busyMask x = none ∧ x ≠ .outData) r hr
      exact hostStep_rd_defined hprog (.inr hmask) hne
    · subst hr
      rw [hostStep_rd hprog, readReg_outData]
  · have hwide {n : Nat} (x : BitVec n) (hn : n ≤ 32) : (x.setWidth 32).toNat = x.toNat :=
      BitVec.toNat_setWidth_of_le hn
    exact ⟨rfl, toNat_configWord s, rfl, rfl, rfl, rfl, rfl, hwide _ (by decide), hwide _ (by decide),
      fun _ _ => toNat_outDataWord, outDataWord_empty, rfl, rfl, hwide _ (by decide), rfl, hwide _ (by decide), rfl,
      hwide _ (by decide), hwide _ (by decide), hwide _ (by decide), toNat_dtabSymWord _, hwide _ (by decide)⟩

theorem writeReg_readOnly {r : Reg} (hr : r ∉ [Reg.ctrl, .cmd, .intEn, .intStatus, .inData, .fifoCtrl, .index])
    (v : Word) (s : State) : writeReg r v s = .next s := by
  cases r with
  | ctrl | cmd | intEn | intStatus | inData | fifoCtrl | index => simp at hr
  | _ => rfl

theorem eq_regOffset_of_regAt {off : Nat} {r : Reg} (h : regAt off = some r) : off = regOffset r := by
  unfold regAt at h
  split at h <;> cases h <;> rfl

theorem regAt_reserved {off : Nat} (h : 0x5C ≤ off) : regAt off = none := by
  cases hr : regAt off with
  | none => rfl
  | some r =>
    rw [eq_regOffset_of_regAt hr] at h
    exact absurd h (by cases r <;> decide)

theorem hostStep_access {s : State} {a : BusAccess} {rest : List HostLine} (h : s.program = .access a :: rest) :
    hostStep s = performAccess a (.access a) rest s := by
  simp only [hostStep, h, lineAccess]

/-- A 32-bit access of the host inside the window is supported (R65). -/
theorem accessRefusal_window (p : Params) {off : Nat} (hoff : off < 256) (haligned : off % 4 = 0) (op : BusOp) :
    accessRefusal p { master := .host, width := .word, addr := p.base + off, op := op } = none := by
  unfold accessRefusal
  simp [haligned]
  omega

/-- Settles O53: no read-only register has an effect at a write, and no register stands at a reserved offset. -/
theorem reservedAndReadOnlyAccesses : Obligations.ReservedAndReadOnlyAccesses := by
  refine fun s rest v => ⟨fun r hr hprog => ?_, fun off hge hle haligned => ⟨fun hprog => ?_, fun hprog => ?_⟩⟩
  · rw [hostStep_wr hprog]
    exact writeReg_readOnly ((by decide : ∀ x ∈ _, x ∉ _) r hr) v _
  · rw [hostStep_access hprog, performAccess, accessRefusal_window _ (by omega) haligned]
    simp [writeOffset, regAt_reserved hge, afterWrite]
  · rw [hostStep_access hprog, performAccess, accessRefusal_window _ (by omega) haligned]
    simp [readOffset, regAt_reserved hge, afterReadOf]

/-! ## Reset -/

theorem hostStep_platformReset {s : State} {rest : List HostLine} (h : s.program = .platformReset :: rest) :
    hostStep s = .next (resetEvent { s with program := rest }) := by
  simp only [hostStep, h]

/-- Settles O47: both ways to reset are resetEvent. -/
theorem resetEndsEverything : Obligations.ResetEndsEverything := by
  refine fun s rest v => ⟨fun hreset => ?_, fun hprog hv => ?_⟩
  · obtain ⟨hprog, hv⟩ | hprog := hreset
    · rw [hostStep_wr hprog, writeReg, if_pos hv]
      rfl
    · rw [hostStep_platformReset hprog]
      rfl
  · rw [hostStep_wr hprog, writeReg, if_neg (hv ▸ Bool.false_ne_true)]

theorem depths_pos_of_wellFormed {p : Params} (h : p.wellFormed = true) :
    0 < p.inDepth.toNat ∧ 0 < p.outDepth.toNat := by
  simp only [Params.wellFormed, Params.inDepthOk, Params.outDepthOk, Bool.and_eq_true, bne_iff_ne] at h
  bv_omega

theorem fifoStatusWord_powerOn {p : Params} (h : p.wellFormed = true) :
    fifoStatusWord (State.powerOn p) = 0x02000000#32 := by
  have hdepth : 0 ≠ p.inDepth.toNat := (depths_pos_of_wellFormed h).1.ne
  apply BitVec.eq_of_toNat_eq
  rw [toNat_fifoStatusWord (inv_powerOn h).fifos]
  simp [State.powerOn, hdepth]

theorem regValue_powerOn (p : Params) {r : Reg} (hid : r ≠ .id) (hconfig : r ≠ .config) (hfifo : r ≠ .fifoStatus) :
    regValue r (State.powerOn p) = 0#32 := by
  cases r with
  | id | config | fifoStatus => contradiction
  | status => exact BitVec.eq_of_toNat_eq ((toNat_statusWord _).trans rfl)
  | histData => exact tabGet_replicate _ _
  | codeLenData | codeValData | dtabSym | dtabVal => simp [regValue, State.powerOn, dtabSymWord, DtabEntry.zero]
  | _ => rfl

/-- Settles O46: every field of the reset state is written out, and the words follow from their fields. -/
theorem resetValues : Obligations.ResetValues := by
  intro p hp
  have htables (b : Byte) : tabGet (State.powerOn p).hist b = 0#32 ∧ tabGet (State.powerOn p).codeLen b = 0#5 ∧
      tabGet (State.powerOn p).codeVal b = 0#31 ∧
      tabGet (State.powerOn p).dtab b = { valid := false, sym := 0#8, len := 0#5, val := 0#31 } :=
    ⟨tabGet_replicate _ b, tabGet_replicate _ b, tabGet_replicate _ b, tabGet_replicate _ b⟩
  have hirq : irq (State.powerOn p) = false := by simp [irq, State.powerOn]
  exact ⟨rfl, toNat_configWord _, fifoStatusWord_powerOn hp, fun _ => regValue_powerOn p, hirq, rfl, rfl, rfl, rfl, rfl,
    htables, rfl, rfl, rfl, rfl, rfl, rfl, rfl, by decide⟩

/-! ## A step offers a command -/

theorem toNat_encode_of_decodeOpcode {op : Byte} {i : Instr} (h : decodeOpcode op = some i) :
    (encode i).toNat = op.toNat := by
  unfold decodeOpcode at h
  split at h <;> cases h <;> simp_all [encode]

theorem eq_encode_of_decode {w : Word} {i : Instr} (h : decode w = some i) : w = encode i := by
  unfold decode at h
  split at h
  next hmbz =>
    have hhigh : (w.extractLsb' 8 24).toNat = 0 := congrArg BitVec.toNat hmbz
    apply BitVec.eq_of_toNat_eq
    rw [toNat_encode_of_decodeOpcode h]
    simp only [BitVec.extractLsb'_toNat, Nat.shiftRight_eq_div_pow] at hhigh ⊢
    omega
  next => cases h

/-- A command word that the engine does not ignore is its command's next event (R110). -/
theorem writeCmd_eq_exec {s : State} {w : Word} {i : Instr} (hbusy : s.busy = false)
    (hfault : s.fault = false ∨ i = .clear) (hw : decode w = some i) : writeCmd w s = exec i s := by
  have htaken : ignores w s ≠ true := by
    rw [Ne, ignores_iff, eq_encode_of_decode hw]
    obtain hf | rfl := hfault
    · simp [hbusy, hf]
    · simp [hbusy]
  rw [writeCmd, if_neg htaken, hw]

theorem hostStep_cmd {s : State} {i : Instr} {rest : List HostLine} (h : s.program = .cmd i :: rest) :
    hostStep s = writeCmd (encode i) { s with program := rest } := by
  simp only [hostStep, h, lineAccess, performAccess, accessRefusal_regAccess, afterWrite, List.nil_append]
  simp [regAccess, writeOffset, writeReg]

theorem step_wr_cmd {s : State} {w : Word} {rest : List HostLine} {i : Instr} (hbusy : s.busy = false)
    (hfault : s.fault = false ∨ i = .clear) (hprog : s.program = .wr .cmd w :: rest) (hw : decode w = some i) :
    step s = exec i { s with program := rest } := by
  rw [step_of_not_busy hbusy (by simp [hprog]), hostStep_wr hprog, writeReg]
  exact writeCmd_eq_exec hbusy hfault hw

/-- While no command runs, withFetchWord only puts the write of the word before the host's program (log entry 9). -/
theorem withFetchWord_encode {s : State} (hbusy : s.busy = false) (i : Instr) :
    s.withFetchWord 32 (encode i).toNat = { s with program := .wr .cmd (encode i) :: s.program } := by
  simp [State.withFetchWord, engineReady, hbusy, Nat.mod_eq_of_lt (encode i).isLt]

/-- Settles O3: the write of the word is the host's next event, the engine does not ignore it, and exec of its command
follows. -/
theorem stepOffersDecodedCommand : Obligations.StepOffersDecodedCommand := by
  refine ⟨fun s w rest i hbusy hfault hprog hw _ => step_wr_cmd hbusy hfault hprog hw,
    fun s rest i hbusy hfault hprog => ?_, fun s i hbusy hfault => ?_⟩
  · rw [step_of_not_busy hbusy (by simp [hprog]), hostStep_cmd hprog]
    exact writeCmd_eq_exec hbusy hfault (decode_encode i)
  · rw [withFetchWord_encode hbusy]
    exact step_wr_cmd hbusy hfault rfl (decode_encode i)

/-! ## A stream line serves the engine -/

theorem statusWord_busy (s : State) : (statusWord s).getLsbD 0 = s.busy := by
  simp only [statusWord, BitVec.getLsbD_append]
  simp

theorem fifoStatusWord_inFull (s : State) : (fifoStatusWord s).getLsbD 24 = inFull s := by
  simp only [fifoStatusWord, BitVec.getLsbD_append]
  simp

theorem fifoStatusWord_outEmpty (s : State) : (fifoStatusWord s).getLsbD 25 = outEmpty s := by
  simp only [fifoStatusWord, BitVec.getLsbD_append]
  simp

/-- Where the engine waits on a FIFO, the next event is the host's (R69, R140, R141). -/
theorem step_of_waiting {s : State} (hwait : waitIn s = true ∨ waitOut s = true) (hprog : s.program ≠ []) :
    step s = hostStep s := by
  have hhost : hostReady s = true := by simp [hostReady, hprog]
  have hengine : engineReady s = false := by
    obtain h | h := hwait <;> simp [engineReady, h]
  simp [step, interleave, hhost, hengine]

theorem run_succ_of_step {s t : State} (h : step s = .next t) (k : Nat) :
    Host.Core.run Sys2Proof.core (k + 1) s = Host.Core.run Sys2Proof.core k t := by
  have hcore : Sys2Proof.core.step s = .next t := h
  simp only [Host.Core.run, hcore]

/-- s after a read of register r that changes nothing of the HUFF, where the host goes on with ls: what a host's poll
of STATUS or FIFO_STATUS leaves (hostStep_stream_status, hostStep_stream_fifo). -/
def State.polled (r : Reg) (ls : List HostLine) (s : State) : State :=
  { s with program := ls, reads := s.reads ++ [(regOffset r, regValue r s)] }

theorem drainedBytes_polled {r : Reg} (hr : regOffset r ≠ regOffset .outData) (ls : List HostLine) (s : State) :
    drainedBytes (s.polled r ls) = drainedBytes s := by
  simp [drainedBytes, State.polled, hr]

/-- s after a stream line's two polls of one round (R87). -/
def State.polledTwice (cmds : List Instr) (ts : List Token) (rest : List HostLine) (s : State) : State :=
  (s.polled .status (.stream cmds ts .fifo :: rest)).polled .fifoStatus
    (afterFifo (fifoStatusWord s) cmds ts ++ rest)

theorem polledTwice_program {cmds : List Instr} {ts : List Token} {s : State} {line : HostLine}
    (h : afterFifo (fifoStatusWord s) cmds ts = [line]) (rest : List HostLine) :
    (s.polledTwice cmds ts rest).program = line :: rest :=
  congrArg (· ++ rest) h

theorem drainedBytes_polledTwice (cmds : List Instr) (ts : List Token) (rest : List HostLine) (s : State) :
    drainedBytes (s.polledTwice cmds ts rest) = drainedBytes s := by
  rw [State.polledTwice, drainedBytes_polled (by decide), drainedBytes_polled (by decide)]

/-- While the engine waits, a stream line's two polls are the next two events (R35, R87). -/
theorem run_polledTwice {s : State} {cmds : List Instr} {ts : List Token} {rest : List HostLine}
    (hprog : s.program = .stream cmds ts .status :: rest) (hbusy : s.busy = true)
    (hwait : waitIn s = true ∨ waitOut s = true) (k : Nat) :
    Host.Core.run Sys2Proof.core (k + 2) s = Host.Core.run Sys2Proof.core k (s.polledTwice cmds ts rest) := by
  have hstatus : step s = .next (s.polled .status (.stream cmds ts .fifo :: rest)) := by
    have hgo : afterStatus (regValue .status s) cmds ts = [.stream cmds ts .fifo] :=
      if_pos ((statusWord_busy s).trans hbusy)
    rw [step_of_waiting hwait (by simp [hprog]), hostStep_stream_status hprog, hgo]
    rfl
  rw [run_succ_of_step hstatus]
  apply run_succ_of_step
  have hwait' : waitIn (s.polled .status (.stream cmds ts .fifo :: rest)) = true ∨
      waitOut (s.polled .status (.stream cmds ts .fifo :: rest)) = true := hwait
  rw [step_of_waiting hwait' nofun, hostStep_stream_fifo rfl]
  rfl

/-- s after an OUT_DATA read, where the host goes on with ls (R130; hostStep_stream_pop). -/
def State.drained (ls : List HostLine) (s : State) : State :=
  { s with
    outFifo := s.outFifo.tail
    program := ls
    reads := s.reads ++ [(regOffset .outData, regValue .outData s)] }

/-- An OUT_DATA read adds the oldest byte, if there is one, to the drained bytes (R34, R130). -/
theorem drainedBytes_drained (ls : List HostLine) (s : State) :
    drainedBytes (s.drained ls) = drainedBytes s ++ s.outFifo.take 1 := by
  simp only [drainedBytes, State.drained, List.filter_append, List.map_append, List.append_cancel_left_eq]
  cases hout : s.outFifo with
  | nil => simp [regValue, outDataWord, hout]
  | cons b bs =>
    have hvalid : ((1 : BitVec 24) ++ b).getLsbD 8 = true := by
      rw [BitVec.getLsbD_append]; rfl
    have hbyte : ((1 : BitVec 24) ++ b).setWidth 8 = b := BitVec.setWidth_append_eq_right
    simp only [regValue, outDataWord, hout]
    rw [List.filter_cons_of_pos (by rw [hvalid]; rfl)]
    exact congrArg ([·]) hbyte

theorem waitOut_drained {s : State} (hfifos : FifoBounds s) (hdepth : 0 < s.params.outDepth.toNat)
    (ls : List HostLine) : waitOut (s.drained ls) = false := by
  rw [Bool.eq_false_iff, Ne, waitOut_iff]
  rintro ⟨-, hfull, -⟩
  have htail : s.params.outDepth.toNat ≤ s.outFifo.tail.length := hfull
  have hlevel := hfifos.2
  rw [List.length_tail] at htail
  omega

theorem step_stream_pop {s : State} {cmds : List Instr} {ts : List Token} {x : Option Token} {rest : List HostLine}
    (hwait : waitIn s = true ∨ waitOut s = true) (hprog : s.program = .stream cmds ts (.pop x) :: rest) :
    step s = .next (s.drained (.stream cmds ts (x.elim .status .push) :: rest)) :=
  (step_of_waiting hwait (by simp [hprog])).trans (hostStep_stream_pop hprog)

theorem afterFifo_of_not_empty {v : Word} (h : v.getLsbD 25 = false) (cmds : List Instr) (ts : List Token) :
    ∃ ts' x, afterFifo v cmds ts = [.stream cmds ts' (.pop x)] := by
  unfold afterFifo
  split <;> simp_all

/-- A stream line's push of a token onto an empty input FIFO ends the wait for it (R122, R123, R140). -/
theorem step_stream_push {s : State} {cmds : List Instr} {ts : List Token} {x : Token} {rest : List HostLine}
    (hdepth : 0 < s.params.inDepth.toNat) (hwait : waitIn s = true)
    (hprog : s.program = .stream cmds ts (.push x) :: rest) :
    step s = .next { s with inFifo := [x], program := .stream cmds ts .status :: rest } := by
  obtain ⟨-, hempty, -⟩ := (waitIn_iff s).1 hwait
  rw [step_of_waiting (.inl hwait) (by simp [hprog]), hostStep_stream_push hprog, pushToken, if_pos]
  · simp [hempty]
  · simpa [inRoom, hempty] using hdepth

theorem streamLine_ends_waitOut {s : State} {cmds : List Instr} {ts : List Token} {rest : List HostLine}
    (hparams : s.params.wellFormed = true) (hfifos : FifoBounds s)
    (hprog : s.program = .stream cmds ts .status :: rest) (hwait : waitOut s = true) :
    ∃ (t : State) (b : Byte), Host.Core.run Sys2Proof.core 3 s = .next t ∧ s.outFifo = b :: t.outFifo ∧
      drainedBytes t = drainedBytes s ++ [b] ∧ waitOut t = false ∧ t.seq = s.seq ∧ t.inFifo = s.inFifo := by
  obtain ⟨hbusy, hfull, -⟩ := (waitOut_iff s).1 hwait
  have hdepth := (depths_pos_of_wellFormed hparams).2
  obtain ⟨b, bs, hout⟩ := List.exists_cons_of_length_pos (hdepth.trans_le hfull)
  have hread : (fifoStatusWord s).getLsbD 25 = false := by
    rw [fifoStatusWord_outEmpty, outEmpty_eq hfifos, hout]
    rfl
  obtain ⟨ts', x, hafter⟩ := afterFifo_of_not_empty hread cmds ts
  have hwait' : waitOut (s.polledTwice cmds ts rest) = true := hwait
  refine ⟨_, b, (run_polledTwice hprog hbusy (.inr hwait) 1).trans
    (run_succ_of_step (step_stream_pop (.inr hwait') (polledTwice_program hafter rest)) 0), ?_, ?_, ?_, rfl, rfl⟩
  · show s.outFifo = b :: s.outFifo.tail
    rw [hout, List.tail_cons]
  · rw [drainedBytes_drained, drainedBytes_polledTwice]
    show _ ++ s.outFifo.take 1 = _
    rw [hout]
    rfl
  · exact waitOut_drained (s := s.polledTwice cmds ts rest) hfifos hdepth _

theorem streamLine_ends_waitIn {s : State} {cmds : List Instr} {x : Token} {ts : List Token}
    {rest : List HostLine} (hparams : s.params.wellFormed = true) (hfifos : FifoBounds s)
    (hprog : s.program = .stream cmds (x :: ts) .status :: rest) (hwait : waitIn s = true) :
    ∃ (n : Nat) (t : State), n ≤ 4 ∧ Host.Core.run Sys2Proof.core n s = .next t ∧ t.inFifo = [x] ∧
      drainedBytes t ++ t.outFifo = drainedBytes s ++ s.outFifo ∧ waitIn t = false ∧ t.seq = s.seq ∧
      t.program = .stream cmds ts .status :: rest := by
  obtain ⟨hbusy, hempty, -⟩ := (waitIn_iff s).1 hwait
  have hdepth := (depths_pos_of_wellFormed hparams).1
  have hroom : (fifoStatusWord s).getLsbD 24 = false := by
    rw [fifoStatusWord_inFull, inFull_eq hfifos, hempty, decide_eq_false_iff_not]
    exact hdepth.ne
  have hwait' : waitIn (s.polledTwice cmds (x :: ts) rest) = true := hwait
  cases hread : (fifoStatusWord s).getLsbD 25 with
  | true =>
    have hafter : afterFifo (fifoStatusWord s) cmds (x :: ts) = [.stream cmds ts (.push x)] := by
      simp only [afterFifo, hroom, hread]
    have hpush := step_stream_push (s := s.polledTwice cmds (x :: ts) rest) hdepth hwait'
      (polledTwice_program hafter rest)
    refine ⟨3, _, by decide, (run_polledTwice hprog hbusy (.inl hwait) 1).trans (run_succ_of_step hpush 0), rfl,
      congrArg (· ++ s.outFifo) (drainedBytes_polledTwice cmds (x :: ts) rest s), ?_, rfl, rfl⟩
    simp [waitIn]
  | false =>
    have hafter : afterFifo (fifoStatusWord s) cmds (x :: ts) = [.stream cmds ts (.pop (some x))] := by
      simp only [afterFifo, hroom, hread]
    have hpop := step_stream_pop (.inl hwait') (polledTwice_program hafter rest)
    have hpush := step_stream_push
      (s := (s.polledTwice cmds (x :: ts) rest).drained (.stream cmds ts (.push x) :: rest)) hdepth hwait' rfl
    refine ⟨4, _, by decide, (run_polledTwice hprog hbusy (.inl hwait) 2).trans
      ((run_succ_of_step hpop 1).trans (run_succ_of_step hpush 0)), rfl, ?_, ?_, rfl, rfl⟩
    · calc drainedBytes ((s.polledTwice cmds (x :: ts) rest).drained (.stream cmds ts (.push x) :: rest)) ++
            s.outFifo.tail
          = drainedBytes s ++ s.outFifo.take 1 ++ s.outFifo.tail := by
            rw [drainedBytes_drained, drainedBytes_polledTwice]
            rfl
        _ = drainedBytes s ++ s.outFifo := by
            rw [List.append_assoc, ← List.drop_one, List.take_append_drop]
    · simp [waitIn]

/-- A stream line at its poll while no command runs goes on to its next command, or ends (R87). -/
theorem step_stream_status_idle {s : State} {cmds : List Instr} {ts : List Token} {rest : List HostLine}
    (hprog : s.program = .stream cmds ts .status :: rest) (hbusy : s.busy = false) :
    step s = .next (s.polled .status ((if cmds = [] then [] else [.stream cmds ts .issue]) ++ rest)) := by
  have hdone : (regValue .status s).getLsbD 0 = false := (statusWord_busy s).trans hbusy
  rw [step_of_not_busy hbusy (by simp [hprog]), hostStep_stream_status hprog, afterStatus, hdone]
  rfl

theorem step_stream_issue {s : State} {i : Instr} {cmds : List Instr} {ts : List Token} {rest : List HostLine}
    (hbusy : s.busy = false) (hfault : s.fault = false ∨ i = .clear)
    (hprog : s.program = .stream (i :: cmds) ts .issue :: rest) :
    step s = exec i { s with program := .stream cmds ts .status :: rest } := by
  rw [step_of_not_busy hbusy (by simp [hprog]), hostStep_stream_issue hprog]
  exact writeCmd_eq_exec hbusy hfault (decode_encode i)

/-- Settles O56: while the engine waits, the host's polls and what follows them are the next events; while no command
runs, the host's line goes on. -/
theorem streamLineServesEngine : Obligations.StreamLineServesEngine := by
  refine fun s cmds ts rest hparams hfifos hprog => ⟨streamLine_ends_waitOut hparams hfifos hprog,
    fun x ts' hwait hts => ?_, fun i cs hbusy hfault hcmds => ?_, fun hbusy hcmds => ?_⟩
  · rw [hts] at hprog
    exact streamLine_ends_waitIn hparams hfifos hprog hwait
  · rw [hcmds] at hprog
    exact ⟨_, step_stream_status_idle hprog hbusy, rfl, step_stream_issue hbusy hfault rfl⟩
  · rw [hcmds] at hprog
    exact ⟨_, step_stream_status_idle hprog hbusy, rfl, rfl⟩

end Sys2Proof.Machine

/-! PROOFS. The bus and the two agents (spec/20_memory.md R65, R69; spec/60_exceptions.md R246): the accesses that are
refused, whose event a step is while a command runs, and the end of CLEAR and BUILD in fair runs
(spec/70_reset_and_hazards.md R280). -/

namespace Sys2Proof.Machine

open Sys2Proof

/-! ## Refused accesses -/

theorem hostStep_access_refused {s : State} {a : BusAccess} {rest : List HostLine} {x : Refusal}
    (hprog : s.program = .access a :: rest) (hx : accessRefusal s.params a = some x) : hostStep s = .refused x := by
  rw [hostStep_access hprog, performAccess, hx]

theorem accessRefusal_of_other {a : BusAccess} (h : a.master = .other) (p : Params) :
    accessRefusal p a = some .secondHost := by
  simp [accessRefusal, h]

/-- Inside the window, the host's access is refused for its width or its alignment alone (R65). -/
theorem accessRefusal_of_unsupported {p : Params} {a : BusAccess} (hmaster : a.master = .host)
    (hlow : p.base ≤ a.addr) (hhigh : a.addr < p.base + 256)
    (hbad : a.width ≠ .word ∨ (a.addr - p.base) % 4 ≠ 0) : accessRefusal p a = some .unsupportedAccess := by
  have hinside : ¬ (a.addr < p.base ∨ p.base + 256 ≤ a.addr) := by omega
  rw [accessRefusal, if_neg (not_not_intro hmaster), if_neg hinside, if_pos hbad]

/-- Settles O54: the refusal of each access is the host's step. -/
theorem unsupportedAccessesRefused : Obligations.UnsupportedAccessesRefused :=
  fun _ _ _ hprog =>
    ⟨fun hother => hostStep_access_refused hprog (accessRefusal_of_other hother _),
     fun hhost hlow hhigh hbad =>
      hostStep_access_refused hprog (accessRefusal_of_unsupported hhost hlow hhigh hbad)⟩

/-! ## Whose event a step is -/

theorem hostReady_iff (s : State) : hostReady s = true ↔ s.program ≠ [] := by
  simp [hostReady]

theorem engineReady_iff (s : State) : engineReady s = true ↔
    s.busy = true ∧ (runningOf s.seq).isSome = true ∧ waitIn s = false ∧ waitOut s = false := by
  simp [engineReady, and_assoc]

theorem engineStep_running {s : State} {i : Instr} (hbusy : s.busy = true) (hrun : runningOf s.seq = some i) :
    engineStep s = exec i s := by
  simp only [engineStep, hbusy, hrun]

/-- Where both agents have an event to take, the head of turns chooses (R69, log entry 4). -/
theorem step_of_engine_turn {s : State} {ts : List Agent} (hhost : hostReady s = true)
    (hengine : engineReady s = true) (hturn : s.turns = .engine :: ts) :
    step s = engineStep { s with turns := ts } := by
  simp [step, interleave, hhost, hengine, hturn]

theorem step_of_host_turn {s : State} {ts : List Agent} (hhost : hostReady s = true)
    (hengine : engineReady s = true) (hturn : s.turns = .host :: ts) :
    step s = hostStep { s with turns := ts } := by
  simp [step, interleave, hhost, hengine, hturn]

/-- Where both have an event to take and turns is empty, the free value chooses (R69, log entry 4). -/
theorem step_of_free_engine_turn {s : State} (hhost : hostReady s = true) (hengine : engineReady s = true)
    (hturn : s.turns = []) (hfree : Config.freeTurn s.draws = false) :
    step s = engineStep { s with draws := s.draws + 1 } := by
  simp [step, interleave, hhost, hengine, hturn, hfree]

/-- Where neither agent has an event to take, nothing changes (R140, R141). -/
theorem step_of_neither {s : State} (hhost : hostReady s = false) (hengine : engineReady s = false) :
    step s = .next s := by
  simp [step, interleave, hhost, hengine]

/-- Settles O4: the step by which of the two agents is ready, and by the head of turns where both are. -/
theorem stepRunsRunningCommand : Obligations.StepRunsRunningCommand := by
  intro s i hbusy hrun
  have hready (hin : waitIn s = false) (hout : waitOut s = false) : engineReady s = true :=
    (engineReady_iff s).2 ⟨hbusy, by simp [hrun], hin, hout⟩
  refine ⟨fun hin hout hprog => ?_, fun ts hin hout hprog hturn => ?_, fun ts hin hout hprog hturn => ?_,
    step_of_waiting, fun hwait hprog => ?_⟩
  · rw [step_of_no_program hprog (hready hin hout), engineStep_running hbusy hrun]
  · rw [step_of_engine_turn ((hostReady_iff s).2 hprog) (hready hin hout) hturn]
    exact engineStep_running (s := { s with turns := ts }) hbusy hrun
  · exact step_of_host_turn ((hostReady_iff s).2 hprog) (hready hin hout) hturn
  · refine step_of_neither (by simp [hostReady, hprog]) ?_
    obtain h | h := hwait <;> simp [engineReady, h]

/-- An event that engineMoves claims for the engine is the engine's (R280). -/
theorem step_of_engineMoves {s : State} (h : engineMoves s) :
    ∃ ts n, step s = engineStep { s with turns := ts, draws := n } := by
  obtain ⟨hengine, hturn⟩ := h
  cases hhost : hostReady s with
  | false =>
    refine ⟨s.turns, s.draws, step_of_no_program ?_ hengine⟩
    simpa [hostReady] using hhost
  | true =>
    obtain hidle | ⟨ts, hts⟩ | ⟨hts, hfree⟩ := hturn
    · exact absurd (hhost.symm.trans hidle) (by decide)
    · exact ⟨ts, s.draws, step_of_engine_turn hhost hengine hts⟩
    · exact ⟨s.turns, s.draws + 1, step_of_free_engine_turn hhost hengine hts hfree⟩

/-! ## What the host leaves of a running command -/

/-- BUSY, the sequencer position and QUEUE are unchanged: the command that runs, its point, and how far BUILD's loop
is (R21, R27, R47). -/
def SameRunning (s t : State) : Prop := t.busy = s.busy ∧ t.seq = s.seq ∧ t.queue = s.queue

theorem SameRunning.trans {s t u : State} (h : SameRunning s t) (h' : SameRunning t u) : SameRunning s u := by
  obtain ⟨hbusy, hseq, hqueue⟩ := h
  obtain ⟨hbusy', hseq', hqueue'⟩ := h'
  exact ⟨hbusy'.trans hbusy, hseq'.trans hseq, hqueue'.trans hqueue⟩

theorem sameRunning_pushToken (x : Token) (s : State) : SameRunning s (pushToken x s) := by
  obtain ⟨-, h⟩ | ⟨-, h⟩ := pushToken_cases x s <;> rw [h] <;> exact ⟨rfl, rfl, rfl⟩

theorem sameRunning_writeFifoCtrl (v : Word) (s : State) : SameRunning s (writeFifoCtrl v s) := by
  have hif {c : Bool} {t u : State} (ht : SameRunning s t) (hu : SameRunning s u) :
      SameRunning s (if c then t else u) := by
    cases c <;> assumption
  have hflush := hif (c := v.getLsbD 1) (t := inFlush s) ⟨rfl, rfl, rfl⟩ ⟨rfl, rfl, rfl⟩
  have hpush := hif (c := v.getLsbD 0) (hflush.trans (sameRunning_pushToken .eos _)) hflush
  exact hif (t := outFlush _) hpush hpush

theorem sameRunning_readReg (r : Reg) (s : State) : SameRunning s (readReg r s).2 := by
  unfold readReg
  split
  · exact ⟨rfl, rfl, rfl⟩
  · split <;> exact ⟨rfl, rfl, rfl⟩

theorem sameRunning_readOffset (off : Nat) (s : State) : SameRunning s (readOffset off s).2 := by
  unfold readOffset
  split
  · exact sameRunning_readReg _ s
  · exact ⟨rfl, rfl, rfl⟩

/-- A register write leaves the running command alone, or resets the HUFF: a command word is ignored (R110, R131). -/
theorem writeReg_running {s t : State} {r : Reg} {v : Word} (hbusy : s.busy = true)
    (h : writeReg r v s = .next t) : t.busy = false ∨ SameRunning s t := by
  cases r with
  | ctrl =>
    simp only [writeReg] at h
    split at h <;> cases h
    · exact .inl rfl
    · exact .inr ⟨rfl, rfl, rfl⟩
  | cmd =>
    rw [writeReg, writeCmd, if_pos ((ignores_iff v s).2 (.inl hbusy))] at h
    cases h
    exact .inr ⟨rfl, rfl, rfl⟩
  | inData =>
    cases h
    exact .inr (sameRunning_pushToken _ s)
  | fifoCtrl =>
    cases h
    exact .inr (sameRunning_writeFifoCtrl v s)
  | _ =>
    cases h
    exact .inr ⟨rfl, rfl, rfl⟩

theorem writeOffset_running {s t : State} {off : Nat} {v : Word} (hbusy : s.busy = true)
    (h : writeOffset off v s = .next t) : t.busy = false ∨ SameRunning s t := by
  unfold writeOffset at h
  split at h
  · exact writeReg_running hbusy h
  · cases h
    exact .inr ⟨rfl, rfl, rfl⟩

theorem performAccess_running {s t : State} {a : BusAccess} {line : HostLine} {rest : List HostLine}
    (hbusy : s.busy = true) (h : performAccess a line rest s = .next t) : t.busy = false ∨ SameRunning s t := by
  unfold performAccess at h
  split at h
  · cases h
  · split at h
    · exact writeOffset_running (s := { s with program := afterWrite line ++ rest }) hbusy h
    · cases h
      exact .inr (sameRunning_readOffset _ s)

/-- An event of the host leaves the running command alone, or resets the HUFF (R131, R261). -/
theorem hostStep_running {s t : State} (hbusy : s.busy = true) (h : hostStep s = .next t) :
    t.busy = false ∨ SameRunning s t := by
  unfold hostStep at h
  split at h
  · cases h
    exact .inr ⟨rfl, rfl, rfl⟩
  · cases h
    exact .inl rfl
  · split at h
    · cases h
      exact .inr ⟨rfl, rfl, rfl⟩
    · exact performAccess_running hbusy h

/-! ## CLEAR and BUILD run out of events -/

/-- A command that takes nothing from a FIFO and gives nothing to one runs: CLEAR or BUILD (R116, R170). -/
def RunsClearOrBuild (s : State) : Prop :=
  s.busy = true ∧ (runningOf s.seq = some .clear ∨ runningOf s.seq = some .build)

/-- A bound on the engine events CLEAR or BUILD has still to take: a pass of BUILD's loop for each node in QUEUE, of
which MakeLeaves leaves at most 256, and the events around the loop (R116, R170, R172). -/
def eventsLeft (s : State) : Nat :=
  match s.seq with
  | .clear => 1
  | .build .start => 259
  | .build .merge => s.queue.length + 2
  | .build .flatten => 1
  | _ => 0

theorem RunsClearOrBuild.seq_cases {s : State} (h : RunsClearOrBuild s) : s.seq = .clear ∨ ∃ p, s.seq = .build p := by
  obtain ⟨-, hrun⟩ := h
  cases hseq : s.seq <;> simp_all [runningOf]

/-- CLEAR and BUILD never wait (R140, R141), so their next event is enabled while they run. -/
theorem RunsClearOrBuild.engineReady {s : State} (h : RunsClearOrBuild s) : engineReady s = true := by
  refine (engineReady_iff s).2 ⟨h.1, ?_, ?_, ?_⟩ <;> obtain hseq | ⟨p, hseq⟩ := h.seq_cases <;>
    simp [waitIn, waitOut, nextIsInPop, nextIsOutPush, runningOf, hseq]

theorem RunsClearOrBuild.of_sameRunning {s t : State} (h : RunsClearOrBuild s) (hsame : SameRunning s t) :
    RunsClearOrBuild t := by
  obtain ⟨hbusy, hseq, -⟩ := hsame
  unfold RunsClearOrBuild
  rwa [hbusy, hseq]

theorem eventsLeft_of_sameRunning {s t : State} (h : SameRunning s t) : eventsLeft t = eventsLeft s := by
  obtain ⟨-, hseq, hqueue⟩ := h
  rw [eventsLeft, hseq, hqueue, eventsLeft]

/-- The command has ended, or CLEAR or BUILD runs with fewer events left. -/
def EndedOrCloser (s t : State) : Prop := t.busy = false ∨ (RunsClearOrBuild t ∧ eventsLeft t < eventsLeft s)

/-- BUILD's first event ends it, or fills QUEUE with at most 256 leaves (R170, R172, R176). -/
theorem endedOrCloser_buildStart {s : State} (hbusy : s.busy = true) (hseq : s.seq = .build .start) :
    EndedOrCloser s (buildStart s) := by
  unfold buildStart
  split
  · exact .inl rfl
  · exact .inl rfl
  · refine .inr ⟨⟨hbusy, .inr rfl⟩, ?_⟩
    have hlen := present_length_le s.hist
    simp only [eventsLeft, hseq, goto_seq, goto_queue, makeLeaves, List.length_map, List.length_range]
    omega

/-- A pass of BUILD's loop leaves the loop, or takes two nodes off QUEUE and adds one (R174). -/
theorem endedOrCloser_mergeEvent {s t : State} (hbusy : s.busy = true) (hseq : s.seq = .build .merge)
    (h : mergeEvent s = .next t) : EndedOrCloser s t := by
  obtain ⟨-, heq⟩ | ⟨r, l, q, htwo, -, heq⟩ | ⟨-, -, -, -, -, heq⟩ := mergeEvent_cases s <;>
    rw [heq] at h <;> cases h
  · refine .inr ⟨⟨hbusy, .inr rfl⟩, ?_⟩
    simp [eventsLeft, hseq]
  · obtain ⟨-, -, -, hlen⟩ := extractTwo_some htwo
    refine .inr ⟨⟨hbusy, .inr (congrArg runningOf hseq)⟩, ?_⟩
    simp only [eventsLeft, hseq, mergeInto, List.length_append, List.length_singleton]
    omega

theorem endedOrCloser_flattenTree (s : State) : EndedOrCloser s (flattenTree s) := by
  obtain ⟨b, -, heq⟩ | ⟨-, heq⟩ := flattenTree_cases s <;> rw [heq] <;> exact .inl rfl

theorem endedOrCloser_engineStep {s t : State} (hrun : RunsClearOrBuild s) (h : engineStep s = .next t) :
    EndedOrCloser s t := by
  have hbusy := hrun.1
  obtain hseq | ⟨p, hseq⟩ := hrun.seq_cases
  · rw [engineStep_running hbusy (congrArg runningOf hseq), exec_clear_running hbusy hseq] at h
    cases h
    exact .inl rfl
  · rw [engineStep_running hbusy (congrArg runningOf hseq), exec_build_running hbusy hseq] at h
    cases p with
    | start =>
      cases h
      exact endedOrCloser_buildStart hbusy hseq
    | merge => exact endedOrCloser_mergeEvent hbusy hseq h
    | flatten =>
      cases h
      exact endedOrCloser_flattenTree s

/-- While CLEAR or BUILD runs, no step adds to the events left, and a step of the engine takes one away. -/
theorem step_runsClearOrBuild {s t : State} (hrun : RunsClearOrBuild s) (h : step s = .next t) :
    t.busy = false ∨
      (RunsClearOrBuild t ∧ eventsLeft t ≤ eventsLeft s ∧ (engineMoves s → eventsLeft t < eventsLeft s)) := by
  have hengine {ts : List Agent} {n : Nat} (heq : step s = engineStep { s with turns := ts, draws := n }) :
      t.busy = false ∨
        (RunsClearOrBuild t ∧ eventsLeft t ≤ eventsLeft s ∧ (engineMoves s → eventsLeft t < eventsLeft s)) :=
    (endedOrCloser_engineStep (s := { s with turns := ts, draws := n }) hrun (heq.symm.trans h)).imp_right
      fun ⟨hrun', hlt⟩ => ⟨hrun', Nat.le_of_lt hlt, fun _ => hlt⟩
  by_cases hmoves : engineMoves s
  · obtain ⟨ts, n, heq⟩ := step_of_engineMoves hmoves
    exact hengine heq
  · obtain ⟨-, hidle, -⟩ | ⟨-, ts, n, heq⟩ | ⟨-, ts, n, heq⟩ := step_cases s
    · exact absurd (hrun.engineReady.symm.trans hidle) (by decide)
    · rw [heq] at h
      refine (hostStep_running (s := { s with turns := ts, draws := n }) hrun.1 h).imp_right fun hsame => ?_
      exact ⟨hrun.of_sameRunning hsame, (eventsLeft_of_sameRunning hsame).le, fun h => absurd h hmoves⟩
    · exact hengine heq

/-! ## Fair runs -/

/-- While CLEAR or BUILD runs on, its next event stays enabled; so fairness grants it, and by strong induction the
events left run out (R280). -/
theorem WeaklyFair.ends_clearOrBuild {r : Nat → State} (hfair : WeaklyFair r) (hr : Run r) {n : Nat}
    (hn : RunsClearOrBuild (r n)) : ∃ m, n ≤ m ∧ (r m).busy = false := by
  induction hk : eventsLeft (r n) using Nat.strong_induction_on generalizing n with
  | h k ih =>
    by_contra hnever
    have hstep {m : Nat} (hm : n ≤ m) (hrun : RunsClearOrBuild (r m)) :=
      (step_runsClearOrBuild hrun (hr m)).resolve_left fun hend => hnever ⟨m + 1, Nat.le_succ_of_le hm, hend⟩
    have hstays (m : Nat) (hm : n ≤ m) : RunsClearOrBuild (r m) ∧ eventsLeft (r m) ≤ k := by
      induction m, hm using Nat.le_induction with
      | base => exact ⟨hn, hk.le⟩
      | succ m hm ihm =>
        obtain ⟨hrun, hle, -⟩ := hstep hm ihm.1
        exact ⟨hrun, hle.trans ihm.2⟩
    obtain ⟨j, hj, hmoves⟩ := hfair n fun m hm => (hstays m hm).1.engineReady
    obtain ⟨hrun, hle⟩ := hstays j hj
    obtain ⟨hrun', -, hlt⟩ := hstep hj hrun
    obtain ⟨m, hm, hend⟩ := ih _ ((hlt hmoves).trans_le hle) hrun' rfl
    exact hnever ⟨m, (Nat.le_succ_of_le hj).trans hm, hend⟩

/-- Settles O60: CLEAR and BUILD never wait, and every event of theirs brings them closer to their end. -/
theorem fairRunEndsClearAndBuild : Obligations.FairRunEndsClearAndBuild :=
  fun _ _ hr hfair hbusy hrun => hfair.ends_clearOrBuild hr ⟨hbusy, hrun⟩

end Sys2Proof.Machine

/-! PROOFS. The command words (spec/30_encoding.md R80 to R83): decoding is exactly the inverse of encoding, and an
illegal word that the engine accepts is faulted (spec/60_exceptions.md R232, R236). -/

namespace Sys2Proof.Machine

open Sys2Proof

/-! ## The words of the table -/

theorem toNat_encode_bounds (i : Instr) : 1 ≤ (encode i).toNat ∧ (encode i).toNat ≤ 7 := by
  cases i <;> decide

/-- Each word from 1 to 7 is a command's (R81). -/
theorem exists_encode_eq {w : Word} (hlow : 1 ≤ w.toNat) (hhigh : w.toNat ≤ 7) : ∃ i, w = encode i := by
  have hword : w = BitVec.ofNat 32 w.toNat := BitVec.eq_of_toNat_eq (by simp)
  generalize w.toNat = n at *
  subst hword
  interval_cases n
  exacts [⟨.clear, rfl⟩, ⟨.count, rfl⟩, ⟨.build, rfl⟩, ⟨.writeHeader, rfl⟩, ⟨.encode, rfl⟩, ⟨.readHeader, rfl⟩,
    ⟨.decode, rfl⟩]

theorem decode_eq_some_iff (w : Word) (i : Instr) : decode w = some i ↔ w = encode i :=
  ⟨eq_encode_of_decode, fun h => h ▸ decode_encode i⟩

/-- The Illegal words of R83. -/
theorem decode_eq_none_iff (w : Word) : decode w = none ↔ w.toNat = 0 ∨ 7 < w.toNat := by
  constructor
  · intro hnone
    by_contra hrange
    obtain ⟨i, rfl⟩ := exists_encode_eq (w := w) (by omega) (by omega)
    exact absurd ((decode_encode i).symm.trans hnone) nofun
  · intro hrange
    by_contra hsome
    obtain ⟨i, hi⟩ := Option.ne_none_iff_exists'.1 hsome
    have hbounds := toNat_encode_bounds i
    rw [← eq_encode_of_decode hi] at hbounds
    omega

/-- MBZ zero and a defined opcode, read as a number (R80, R81). -/
theorem wordWellFormed_iff (w : Word) : wordWellFormed w = true ↔ 1 ≤ w.toNat ∧ w.toNat ≤ 7 := by
  have hmbz : w.extractLsb' 8 24 = 0 ↔ w.toNat / 256 = 0 := by
    rw [← BitVec.toNat_inj, BitVec.extractLsb'_toNat, Nat.shiftRight_eq_div_pow]
    simp only [BitVec.ofNat_eq_ofNat, BitVec.toNat_ofNat]
    omega
  have hopcode : (w.extractLsb' 0 8).toNat = w.toNat % 256 := by simp
  simp only [wordWellFormed, wordMbzOk, wordOpcodeOk, Bool.and_eq_true, beq_iff_eq, decide_eq_true_eq, hmbz, hopcode]
  omega

/-- Settles O2: the words of the commands are exactly the numbers 1 to 7, and so are the words the checks pass. -/
theorem decodeExactlyTheTable : Obligations.DecodeExactlyTheTable := by
  refine ⟨rfl, decode_eq_some_iff, decode_eq_none_iff, fun w => ?_⟩
  rw [wordWellFormed_iff, Option.isSome_iff_ne_none, Ne, decode_eq_none_iff]
  omega

/-- Settles O1, by evaluating the decoder on the twelve words. -/
theorem commandWordsDecode : Obligations.CommandWordsDecode := by
  unfold Obligations.CommandWordsDecode
  decide

/-! ## An accepted illegal word -/

/-- An illegal word that the engine does not ignore faults, before any phase check (R83, R110, R232). -/
theorem writeCmd_illegal {s : State} {w : Word} (hbusy : s.busy = false) (hfault : s.fault = false)
    (hw : decode w = none) : writeCmd w s = .next (raiseFault .illegalCmd w (acceptWord w s)) := by
  have htaken : ignores w s ≠ true := by
    rw [Ne, ignores_iff]
    simp [hbusy, hfault]
  rw [writeCmd, if_neg htaken, hw, offerIllegal, if_neg htaken]

/-- Settles O5: the write of the word is the host's next event, and the word decodes to none. -/
theorem illegalWordFaults : Obligations.IllegalWordFaults := by
  intro s w rest hbusy hfault hw hprog
  rw [step_of_not_busy hbusy (by simp [hprog]), hostStep_wr hprog, writeReg,
    writeCmd_illegal (s := { s with program := rest }) hbusy hfault ((decode_eq_none_iff w).2 hw)]
  rfl

end Sys2Proof.Machine

/-! PROOFS. Bits and bytes of the container (spec/20_memory.md R62, R63; spec/30_encoding.md R98), and what the bit
writer makes of a sequence of bits (spec/41_bitio.md R142, R144). -/

namespace Sys2Proof.Machine

open Sys2Proof

/-! ## Bits of words -/

@[simp] theorem length_wordBits (v : Word) (n : Nat) : (wordBits v n).length = n := by
  induction n with
  | zero => rfl
  | succ n ih => simp [wordBits, ih]

theorem getElem_wordBits (v : Word) (n i : Nat) (hi : i < (wordBits v n).length) :
    (wordBits v n)[i] = v.getLsbD (n - 1 - i) := by
  induction n generalizing i with
  | zero => simp [wordBits] at hi
  | succ n ih =>
    cases i with
    | zero => rfl
    | succ i =>
      simp only [wordBits, List.getElem_cons_succ, ih]
      congr 1
      omega

/-- The low n bits of v, shifted in one after another below the bits above them, give v (R63, R142, R145). -/
theorem foldl_shiftConcat_wordBits {w : Nat} (hw : w ≤ 32) (v : BitVec w) (n : Nat) :
    (wordBits (v.setWidth 32) n).foldl BitVec.shiftConcat (v >>> n) = v := by
  induction n with
  | zero => simp [wordBits]
  | succ n ih =>
    have hstep : (v >>> (n + 1)).shiftConcat ((v.setWidth 32).getLsbD n) = v >>> n := by
      apply BitVec.eq_of_getLsbD_eq
      intro i hi
      rw [BitVec.getLsbD_shiftConcat, BitVec.getLsbD_setWidth]
      cases i with
      | zero =>
        by_cases hn : n < 32
        · simp [hi, hn]
        · simp [hi, hn, BitVec.getLsbD_of_ge v n (by omega)]
      | succ i => simp [hi, show n + 1 + i = n + (i + 1) by omega]
    rw [wordBits, List.foldl_cons, hstep, ih]

/-- A number of n bits is what its n bits give, shifted into an empty register (R145). -/
theorem foldl_shiftConcat_of_lt {v : Word} {n : Nat} (hv : v.toNat < 2 ^ n) :
    (wordBits v n).foldl BitVec.shiftConcat 0#32 = v := by
  have hzero : v >>> n = 0#32 := by
    apply BitVec.eq_of_toNat_eq
    rw [BitVec.toNat_ushiftRight, Nat.shiftRight_eq_div_pow, Nat.div_eq_of_lt hv]
    rfl
  have h := foldl_shiftConcat_wordBits (Nat.le_refl 32) v n
  rwa [hzero, BitVec.setWidth_eq] at h

theorem getLsbD_setWidth_of_byte (b : Byte) (i : Nat) : (b.setWidth 32).getLsbD i = b.getLsbD i := by
  rw [BitVec.getLsbD_setWidth]
  by_cases hi : i < 32
  · simp [hi]
  · simp [hi, BitVec.getLsbD_of_ge b i (by omega)]

/-- Bits shifted out of a byte's top do not show in its low bits (R142). -/
theorem wordBits_shiftConcat (buf : Byte) (b : Bool) {n : Nat} (hn : n + 1 ≤ 8) :
    wordBits ((buf.shiftConcat b).setWidth 32) (n + 1) = wordBits (buf.setWidth 32) n ++ [b] := by
  induction n with
  | zero => simp [wordBits]
  | succ n ih =>
    rw [wordBits, ih (by omega), wordBits, List.cons_append, getLsbD_setWidth_of_byte, getLsbD_setWidth_of_byte,
      BitVec.getLsbD_shiftConcat]
    simp [show n + 1 < 8 by omega]

/-! ## Bytes of bit sequences -/

@[simp] theorem length_byteBits (b : Byte) : (byteBits b).length = 8 := length_wordBits _ 8

theorem foldl_shiftConcat_byteBits (b : Byte) : (byteBits b).foldl BitVec.shiftConcat 0#8 = b := by
  have h := foldl_shiftConcat_wordBits (by decide) b 8
  have hzero : b >>> 8 = 0#8 := by
    apply BitVec.eq_of_toNat_eq
    rw [BitVec.toNat_ushiftRight, Nat.shiftRight_eq_div_pow, Nat.div_eq_of_lt b.isLt]
    rfl
  rwa [hzero] at h

@[simp] theorem unpacked_nil : unpacked [] = [] := rfl

@[simp] theorem unpacked_cons (b : Byte) (bs : List Byte) : unpacked (b :: bs) = byteBits b ++ unpacked bs := rfl

@[simp] theorem unpacked_append (as bs : List Byte) : unpacked (as ++ bs) = unpacked as ++ unpacked bs :=
  List.flatMap_append

/-- Byte 0 of a sequence that begins with the bits of b is b (R62). -/
theorem byteAt_byteBits_append_zero (b : Byte) (l : List Bool) : byteAt (byteBits b ++ l) 0 = b := by
  rw [← foldl_shiftConcat_byteBits b]
  simp [byteAt, List.range_succ, byteBits, wordBits]

theorem byteAt_append_succ {p : List Bool} (hp : p.length = 8) (l : List Bool) (j : Nat) :
    byteAt (p ++ l) (j + 1) = byteAt l j := by
  have hbit (i : Nat) : (p ++ l).getD (8 * (j + 1) + i) false = l.getD (8 * j + i) false := by
    rw [List.getD_append_right _ _ _ _ (by omega), hp]
    congr 1
    omega
  simp only [byteAt, hbit]

/-- Past its end a sequence is read as zero bits (R98). -/
theorem byteAt_append_replicate_false (l : List Bool) (k j : Nat) :
    byteAt (l ++ List.replicate k false) j = byteAt l j := by
  have hbit (i : Nat) : (l ++ List.replicate k false).getD i false = l.getD i false := by
    rw [List.getD_eq_getElem?_getD, List.getD_eq_getElem?_getD, List.getElem?_append]
    split
    · rfl
    · rw [List.getElem?_eq_none (l := l) (by omega), List.getElem?_replicate]
      split <;> rfl
  simp only [byteAt, hbit]

theorem map_byteAt_byteBits_append (b : Byte) (l : List Bool) (n : Nat) :
    (List.range (n + 1)).map (byteAt (byteBits b ++ l)) = b :: (List.range n).map (byteAt l) := by
  rw [List.range_succ_eq_map, List.map_cons, List.map_map, byteAt_byteBits_append_zero]
  simp only [Function.comp_def, Nat.succ_eq_add_one, byteAt_append_succ (length_byteBits b)]

theorem wholeBytes_unpacked_append (bs : List Byte) (l : List Bool) :
    wholeBytes (unpacked bs ++ l) = bs ++ wholeBytes l := by
  induction bs with
  | nil => rfl
  | cons b bs ih =>
    have hlen : (byteBits b ++ (unpacked bs ++ l)).length / 8 = (unpacked bs ++ l).length / 8 + 1 := by
      rw [List.length_append, length_byteBits]
      omega
    rw [unpacked_cons, List.append_assoc, wholeBytes, hlen, map_byteAt_byteBits_append, List.cons_append, ← ih]
    rfl

theorem packed_unpacked_append (bs : List Byte) (l : List Bool) :
    packed (unpacked bs ++ l) = bs ++ packed l := by
  induction bs with
  | nil => rfl
  | cons b bs ih =>
    have hlen : ((byteBits b ++ (unpacked bs ++ l)).length + 7) / 8 = ((unpacked bs ++ l).length + 7) / 8 + 1 := by
      rw [List.length_append, length_byteBits]
      omega
    rw [unpacked_cons, List.append_assoc, packed, hlen, map_byteAt_byteBits_append, List.cons_append, ← ih]
    rfl

theorem length_unpacked (bs : List Byte) : (unpacked bs).length = 8 * bs.length := by
  induction bs with
  | nil => rfl
  | cons b bs ih =>
    rw [unpacked_cons, List.length_append, length_byteBits, ih, List.length_cons]
    omega

/-- A sequence cut into bytes and fewer than 8 bits is cut so in one way (R62). -/
theorem wholeBytes_eq_of_unpacked {l r : List Bool} {bs : List Byte} (h : l = unpacked bs ++ r) (hr : r.length < 8) :
    wholeBytes l = bs ∧ l.drop (8 * (l.length / 8)) = r := by
  have hlen : l.length / 8 = bs.length := by
    rw [h, List.length_append, length_unpacked]
    omega
  constructor
  · rw [h, wholeBytes_unpacked_append, wholeBytes, Nat.div_eq_of_lt hr]
    exact List.append_nil bs
  · rw [hlen, h, ← length_unpacked, List.drop_left]

/-! ## The bit writer -/

@[simp] theorem length_heldBits (buf : Byte) (cnt : BitVec 3) : (heldBits buf cnt).length = cnt.toNat :=
  length_wordBits _ _

/-- A bit step of the writer puts the bit after the held bits: all of them are held, or all of them are the byte
pushed (R142). -/
theorem heldBits_writerStep (buf : Byte) (cnt : BitVec 3) (b : Bool) :
    heldBits buf cnt ++ [b] =
      unpacked (writerStep buf cnt b).2.2.toList ++ heldBits (writerStep buf cnt b).1 (writerStep buf cnt b).2.1 := by
  by_cases hfull : cnt = 7#3
  · rw [hfull, writerStep_full]
    simp only [Option.toList_some, unpacked_cons, unpacked_nil, List.append_nil]
    exact (wordBits_shiftConcat buf b (n := 7) (by decide)).symm
  · have hcnt : (cnt + 1#3).toNat = cnt.toNat + 1 := by bv_omega
    rw [writerStep_open _ _ hfull, heldBits, heldBits, hcnt, wordBits_shiftConcat buf b (by bv_omega)]
    rfl

/-- The byte BitFlush pushes holds the held bits and then zero bits (R144). -/
theorem byteBits_flushByte (buf : Byte) (cnt : BitVec 3) :
    byteBits (flushByte buf cnt) = heldBits buf cnt ++ List.replicate (8 - cnt.toNat) false := by
  have hcnt := cnt.isLt
  apply List.ext_getElem
  · simp only [length_byteBits, List.length_append, length_heldBits, List.length_replicate]
    omega
  · intro i hi _
    rw [length_byteBits] at hi
    simp only [byteBits, heldBits, flushByte, List.getElem_append, getElem_wordBits, length_wordBits,
      getLsbD_setWidth_of_byte, BitVec.getLsbD_shiftLeft, List.getElem_replicate]
    split
    next hheld =>
      simp [show 8 - 1 - i < 8 by omega, show ¬ 8 - 1 - i < 8 - cnt.toNat by omega,
        show 8 - 1 - i - (8 - cnt.toNat) = cnt.toNat - 1 - i by omega]
    next hpad => simp [show 8 - 1 - i < 8 - cnt.toNat by omega]

theorem packed_heldBits (buf : Byte) (cnt : BitVec 3) :
    packed (heldBits buf cnt) = if cnt = 0#3 then [] else [flushByte buf cnt] := by
  split
  next hzero =>
    simp [hzero, packed]
  next hheld =>
    have hlen : ((heldBits buf cnt).length + 7) / 8 = 1 := by
      rw [length_heldBits]
      bv_omega
    have hbyte : byteAt (heldBits buf cnt) 0 = flushByte buf cnt := by
      rw [← byteAt_append_replicate_false _ (8 - cnt.toNat), ← byteBits_flushByte,
        ← List.append_nil (byteBits _), byteAt_byteBits_append_zero]
    rw [packed, hlen]
    exact congrArg ([·]) hbyte

end Sys2Proof.Machine

/-! PROOFS. Engine events in a row, with no host event between (spec/20_memory.md R69), and a sequence of bits written
by a command that does not wait (spec/41_bitio.md R141, R142). -/

namespace Sys2Proof.Machine

open Sys2Proof

/-! ## Events in a row -/

/-- Some number of engine events, with no host event between, leads from s to t (engineRun). -/
def Reaches (s t : State) : Prop := ∃ n, engineRun n s = .next t

theorem Reaches.refl (s : State) : Reaches s s := ⟨0, rfl⟩

theorem engineRun_succ {s t : State} (hstep : engineStep s = .next t) (n : Nat) :
    engineRun (n + 1) s = engineRun n t := by
  rw [engineRun, hstep]

theorem Reaches.head {s t u : State} (hstep : engineStep s = .next t) (h : Reaches t u) : Reaches s u := by
  obtain ⟨n, hn⟩ := h
  exact ⟨n + 1, (engineRun_succ hstep n).trans hn⟩

theorem Reaches.of_step {s t : State} (hstep : engineStep s = .next t) : Reaches s t :=
  .head hstep (.refl t)

theorem engineRun_add {s t : State} {n : Nat} (h : engineRun n s = .next t) (m : Nat) :
    engineRun (n + m) s = engineRun m t := by
  induction n generalizing s with
  | zero =>
    cases h
    rw [Nat.zero_add]
  | succ n ih =>
    rw [Nat.succ_add]
    cases hstep : engineStep s with
    | next u =>
      rw [engineRun_succ hstep] at h ⊢
      exact ih h
    | fault r => simp [engineRun, hstep] at h
    | refused r => simp [engineRun, hstep] at h

theorem Reaches.trans {s t u : State} (h : Reaches s t) (h' : Reaches t u) : Reaches s u := by
  obtain ⟨n, hn⟩ := h
  obtain ⟨m, hm⟩ := h'
  exact ⟨n + m, (engineRun_add hn m).trans hm⟩

theorem engineStep_writeHeader {s : State} {p : WritePt} (hbusy : s.busy = true) (hseq : s.seq = .writeHeader p) :
    engineStep s = .next (writeEvent p s) :=
  (engineStep_running hbusy (congrArg runningOf hseq)).trans (exec_writeHeader_running hbusy hseq)

theorem engineStep_encode {s : State} {p : EncodePt} (hbusy : s.busy = true) (hseq : s.seq = .encode p) :
    engineStep s = .next (encodeEvent p s) :=
  (engineStep_running hbusy (congrArg runningOf hseq)).trans (exec_encode_running hbusy hseq)

theorem engineStep_readHeader {s : State} {p : ReadPt} (hbusy : s.busy = true) (hseq : s.seq = .readHeader p) :
    engineStep s = .next (readEvent p s) :=
  (engineStep_running hbusy (congrArg runningOf hseq)).trans (exec_readHeader_running hbusy hseq)

/-! ## Updates one after another -/

theorem goto_goto (p q : Seq) (s : State) : goto p (goto q s) = goto p s := rfl

theorem setProgress_setProgress (v w : Word) (s : State) : setProgress v (setProgress w s) = setProgress v s := rfl

theorem setProgress_goto (v : Word) (q : Seq) (s : State) : setProgress v (goto q s) = goto q (setProgress v s) := rfl

/-! ## A sequence of bits written -/

/-- The state after the bit steps of BitWrite for the bits l, none of which waits (R142). -/
def writeBits (l : List Bool) (s : State) : State := l.foldl (fun t b => writeBit b t) s

@[simp] theorem writeBits_nil (s : State) : writeBits [] s = s := rfl

theorem writeBits_cons (b : Bool) (l : List Bool) (s : State) :
    writeBits (b :: l) s = writeBits l (writeBit b s) := rfl

theorem writeBits_append (l m : List Bool) (s : State) : writeBits (l ++ m) s = writeBits m (writeBits l s) :=
  List.foldl_append

/-- What no bit step changes, none of a sequence of them changes. -/
theorem writeBits_keeps {α : Type} (f : State → α) (h : ∀ b t, f (writeBit b t) = f t) (l : List Bool)
    (s : State) : f (writeBits l s) = f s := by
  induction l generalizing s with
  | nil => rfl
  | cons b l ih => rw [writeBits_cons, ih, h]

section

variable (l : List Bool) (s : State)

@[simp] theorem writeBits_busy : (writeBits l s).busy = s.busy := writeBits_keeps State.busy (fun _ _ => rfl) l s
@[simp] theorem writeBits_fault : (writeBits l s).fault = s.fault := writeBits_keeps State.fault (fun _ _ => rfl) l s
@[simp] theorem writeBits_progress : (writeBits l s).progress = s.progress :=
  writeBits_keeps State.progress (fun _ _ => rfl) l s
@[simp] theorem writeBits_total : (writeBits l s).total = s.total := writeBits_keeps State.total (fun _ _ => rfl) l s
@[simp] theorem writeBits_hist : (writeBits l s).hist = s.hist := writeBits_keeps State.hist (fun _ _ => rfl) l s
@[simp] theorem writeBits_payloadCount : (writeBits l s).payloadCount = s.payloadCount :=
  writeBits_keeps State.payloadCount (fun _ _ => rfl) l s
@[simp] theorem writeBits_codeLen : (writeBits l s).codeLen = s.codeLen :=
  writeBits_keeps State.codeLen (fun _ _ => rfl) l s
@[simp] theorem writeBits_codeVal : (writeBits l s).codeVal = s.codeVal :=
  writeBits_keeps State.codeVal (fun _ _ => rfl) l s
@[simp] theorem writeBits_numEntries : (writeBits l s).numEntries = s.numEntries :=
  writeBits_keeps State.numEntries (fun _ _ => rfl) l s
@[simp] theorem writeBits_inFifo : (writeBits l s).inFifo = s.inFifo :=
  writeBits_keeps State.inFifo (fun _ _ => rfl) l s

end

/-- The bit steps commute with every update that commutes with one bit step. -/
theorem writeBits_comm {f : State → State} (h : ∀ b t, writeBit b (f t) = f (writeBit b t)) (l : List Bool)
    (s : State) : writeBits l (f s) = f (writeBits l s) := by
  induction l generalizing s with
  | nil => rfl
  | cons b l ih => rw [writeBits_cons, h, ih, writeBits_cons]

theorem writeBits_goto (l : List Bool) (q : Seq) (s : State) : writeBits l (goto q s) = goto q (writeBits l s) :=
  writeBits_comm (fun _ _ => rfl) l s

theorem writeBits_setProgress (l : List Bool) (v : Word) (s : State) :
    writeBits l (setProgress v s) = setProgress v (writeBits l s) :=
  writeBits_comm (fun _ _ => rfl) l s

theorem writeBits_takePayloadCount (l : List Bool) (s : State) :
    writeBits l (takePayloadCount s) = takePayloadCount (writeBits l s) :=
  writeBits_comm (fun _ _ => rfl) l s

/-- The bits held before and the bits written are the bytes pushed and the bits held after (R142). -/
theorem writeBits_bytes (l : List Bool) (s : State) :
    ∃ bs, (writeBits l s).outFifo = s.outFifo ++ bs ∧
      heldBits s.bwBuf s.bwCnt ++ l = unpacked bs ++ heldBits (writeBits l s).bwBuf (writeBits l s).bwCnt := by
  induction l generalizing s with
  | nil => exact ⟨[], (List.append_nil _).symm, List.append_nil _⟩
  | cons b l ih =>
    obtain ⟨bs, hout, hheld⟩ := ih (writeBit b s)
    refine ⟨(writerStep s.bwBuf s.bwCnt b).2.2.toList ++ bs, ?_, ?_⟩
    · rw [writeBits_cons, hout, writeBit_outFifo, List.append_assoc]
    · rw [writeBits_cons, unpacked_append, List.append_assoc, ← hheld, writeBit_bwBuf, writeBit_bwCnt,
        ← List.append_assoc, ← heldBits_writerStep, List.append_assoc]
      rfl

/-! ## Room for the bits to come -/

/-- The output FIFO has room for the whole bytes of the held bits and n more (R141). -/
def RoomFor (n : Nat) (s : State) : Prop :=
  s.outFifo.length + (s.bwCnt.toNat + n) / 8 ≤ s.params.outDepth.toNat

theorem RoomFor.goto {n : Nat} {s : State} (h : RoomFor n s) (q : Seq) : RoomFor n (goto q s) := h

theorem RoomFor.setProgress {n : Nat} {s : State} (h : RoomFor n s) (v : Word) : RoomFor n (setProgress v s) := h

theorem RoomFor.takePayloadCount {n : Nat} {s : State} (h : RoomFor n s) : RoomFor n (takePayloadCount s) := h

theorem RoomFor.not_blocked {n : Nat} {s : State} (h : RoomFor (n + 1) s) : writeBlocked s = false := by
  by_cases hfull : s.bwCnt = 7#3
  · have hroom : outRoom s = true := by
      rw [outRoom_iff]
      unfold RoomFor at h
      rw [hfull] at h
      simp only [BitVec.toNat_ofNat] at h
      omega
    simp [writeBlocked, hroom]
  · simp [writeBlocked, hfull]

theorem RoomFor.writeBit {n : Nat} {s : State} (h : RoomFor (n + 1) s) (b : Bool) : RoomFor n (writeBit b s) := by
  unfold RoomFor at *
  rw [writeBit_outFifo, writeBit_bwCnt, writeBit_params, List.length_append]
  by_cases hfull : s.bwCnt = 7#3
  · rw [hfull] at h ⊢
    simp only [writerStep_full, BitVec.toNat_ofNat, Option.toList_some, List.length_singleton] at h ⊢
    omega
  · have hcnt : (s.bwCnt + 1#3).toNat = s.bwCnt.toNat + 1 := by bv_omega
    simp only [writerStep_open _ _ hfull, hcnt, Option.toList_none, List.length_nil]
    omega

/-- Room for two sequences of bits is room for the first, and for the second once the first is written. -/
theorem RoomFor.append {l m : List Bool} {s : State} (h : RoomFor (l ++ m).length s) :
    RoomFor l.length s ∧ RoomFor m.length (Machine.writeBits l s) := by
  constructor
  · unfold RoomFor at *
    rw [List.length_append] at h
    omega
  · induction l generalizing s with
    | nil => exact h
    | cons b l ih => exact ih (RoomFor.writeBit h b)

/-- The points p n of a command, with n bits left, are those of a BitWrite of the value V, which no bit step changes
(R142). -/
def IsBitWrite (p : Nat → Seq) (V : State → Word) : Prop :=
  (∀ q b s, V (goto q (writeBit b s)) = V s) ∧
  ∀ n s, s.busy = true → s.seq = p (n + 1) →
    engineStep s = .next (if writeBlocked s then s else goto (p n) (writeBit ((V s).getLsbD n) s))

/-- A BitWrite with room for its bytes writes the bits of its value (R63, R142). -/
theorem IsBitWrite.reaches {p : Nat → Seq} {V : State → Word} (hp : IsBitWrite p V) {n : Nat} {s : State}
    (hbusy : s.busy = true) (hseq : s.seq = p n) (hroom : RoomFor n s) :
    Reaches s (goto (p 0) (writeBits (wordBits (V s) n) s)) := by
  induction n generalizing s with
  | zero =>
    rw [wordBits, writeBits_nil, ← hseq]
    exact .refl s
  | succ n ih =>
    obtain ⟨hkeep, hstep⟩ := hp
    have hbit := hstep n s hbusy hseq
    rw [if_neg (by simp [hroom.not_blocked])] at hbit
    have hrest := ih (s := goto (p n) (writeBit ((V s).getLsbD n) s)) hbusy rfl (hroom.writeBit _)
    rw [hkeep, writeBits_goto] at hrest
    exact .head hbit hrest

end Sys2Proof.Machine

/-! PROOFS. A whole WRITE_HEADER (spec/44_header.md R190 to R194): the fields in order, the bits each of them writes,
and the bytes the bits make. -/

namespace Sys2Proof.Machine

open Sys2Proof

/-! ## The fields of WRITE_HEADER -/

theorem fieldValue_writeBit (f : WField) (q : Seq) (b : Bool) (s : State) :
    fieldValue f (goto q (writeBit b s)) = fieldValue f s := by
  cases f <;> rfl

theorem isBitWrite_field (f : WField) : IsBitWrite (fun n => .writeHeader (.bits f n)) (fieldValue f) :=
  ⟨fieldValue_writeBit f, fun _ _ hbusy hseq => engineStep_writeHeader hbusy hseq⟩

/-- The bits WRITE_HEADER writes for field f (R190). -/
def fieldBits (f : WField) (s : State) : List Bool := wordBits (fieldValue f s) (fieldWidth f s)

theorem afterField_goto (f : WField) (q : Seq) (s : State) : afterField f (goto q s) = afterField f s := by
  cases f with
  | magic i => unfold afterField; split <;> rfl
  | _ => rfl

/-- A field, from its start to what follows its last bit (R190). -/
theorem reaches_afterField {f : WField} {s : State} (hbusy : s.busy = true)
    (hroom : RoomFor (fieldBits f s).length s) :
    Reaches (startField f s) (afterField f (writeBits (fieldBits f s) s)) := by
  rw [fieldBits, length_wordBits] at hroom
  have hvalue : fieldValue f (startField f s) = fieldValue f s := by cases f <;> rfl
  have hbits := (isBitWrite_field f).reaches (s := startField f s) hbusy rfl hroom
  rw [hvalue] at hbits
  rw [startField, writeBits_goto, goto_goto] at hbits
  have hend := engineStep_writeHeader (s := goto (.writeHeader (.bits f 0)) (writeBits (fieldBits f s) s))
    ((writeBits_busy _ s).trans hbusy) rfl
  rw [writeEvent, afterField_goto] at hend
  exact hbits.trans (.of_step hend)

/-! ## A whole WRITE_HEADER -/

/-- The magic from byte i on is field i, then the magic from byte i + 1 on (R92, R190). -/
theorem unpacked_magic_drop {i : Nat} (hi : i < 8) (s : State) :
    unpacked (magic.drop i) = fieldBits (.magic i) s ++ unpacked (magic.drop (i + 1)) := by
  have hlt : i < magic.length := hi
  rw [List.drop_eq_getElem_cons hlt, unpacked_cons, ← List.getD_eq_getElem _ 0 hlt]
  rfl

theorem reaches_afterMagic {i k : Nat} {s : State} (hbusy : s.busy = true) (hi : i + k = 7)
    (hroom : RoomFor (unpacked (magic.drop i)).length s) :
    Reaches (startField (.magic i) s) (startField .numEntries (writeBits (unpacked (magic.drop i)) s)) := by
  induction k generalizing i s with
  | zero =>
    obtain rfl : i = 7 := hi
    exact reaches_afterField hbusy hroom
  | succ k ih =>
    rw [unpacked_magic_drop (by omega) s] at hroom ⊢
    obtain ⟨hroom, hroom'⟩ := hroom.append
    have hfield := reaches_afterField hbusy hroom
    rw [afterField, if_pos (by omega)] at hfield
    rw [writeBits_append]
    exact hfield.trans (ih (by simpa using hbusy) (by omega) hroom')

/-- An entry, from its symbol to the head of the loop (R94, R190). -/
theorem reaches_afterEntry {b : Byte} {s : State} (hbusy : s.busy = true)
    (hroom : RoomFor (entryBits (b, tabGet s.codeLen b, tabGet s.codeVal b)).length s) :
    Reaches (startField (.sym b) s)
      (goto (.writeHeader (.scan (b.toNat + 1))) (setProgress (s.progress + 1#32)
        (writeBits (entryBits (b, tabGet s.codeLen b, tabGet s.codeVal b)) s))) := by
  have hbits : entryBits (b, tabGet s.codeLen b, tabGet s.codeVal b) =
      fieldBits (.sym b) s ++ fieldBits (.len b) s ++ fieldBits (.val b) s := rfl
  rw [hbits] at hroom ⊢
  obtain ⟨hroom, hroomVal⟩ := hroom.append
  obtain ⟨hroomSym, hroomLen⟩ := hroom.append
  have hkeep (f : WField) (l : List Bool) : fieldBits f (writeBits l s) = fieldBits f s :=
    writeBits_keeps (fieldBits f) (fun _ _ => by cases f <;> rfl) l s
  have hbusy' (l : List Bool) : (writeBits l s).busy = true := (writeBits_busy l s).trans hbusy
  have hsym : Reaches (startField (.sym b) s) (startField (.len b) (writeBits (fieldBits (.sym b) s) s)) :=
    reaches_afterField hbusy hroomSym
  have hlen := reaches_afterField (f := .len b) (hbusy' (fieldBits (.sym b) s)) (by rw [hkeep]; exact hroomLen)
  have hval := reaches_afterField (f := .val b) (hbusy' (fieldBits (.sym b) s ++ fieldBits (.len b) s))
    (by rw [hkeep]; exact hroomVal)
  rw [hkeep, ← writeBits_append] at hlen hval
  rw [← writeBits_progress]
  exact hsym.trans (hlen.trans hval)

/-- The entries of the symbols below k that have a codeword (R192). -/
def entriesBelow (len : Vector (BitVec 5) 256) (val : Vector (BitVec 31) 256) (k : Nat) :
    List (Byte × BitVec 5 × BitVec 31) :=
  (((List.range k).map (BitVec.ofNat 8)).filter (fun b => tabGet len b != 0#5)).map
    (fun b => (b, tabGet len b, tabGet val b))

theorem entriesBelow_256 (len : Vector (BitVec 5) 256) (val : Vector (BitVec 31) 256) :
    entriesBelow len val 256 = tableEntries len val := rfl

theorem entriesBelow_succ_of_zero {len : Vector (BitVec 5) 256} {k : Nat} (h : tabGet len (BitVec.ofNat 8 k) = 0#5)
    (val : Vector (BitVec 31) 256) : entriesBelow len val (k + 1) = entriesBelow len val k := by
  simp [entriesBelow, List.range_succ, List.filter_append, h]

theorem entriesBelow_succ_of_ne {len : Vector (BitVec 5) 256} {k : Nat} (h : tabGet len (BitVec.ofNat 8 k) ≠ 0#5)
    (val : Vector (BitVec 31) 256) :
    entriesBelow len val (k + 1) = entriesBelow len val k ++
      [(BitVec.ofNat 8 k, tabGet len (BitVec.ofNat 8 k), tabGet val (BitVec.ofNat 8 k))] := by
  simp [entriesBelow, List.range_succ, List.filter_append, h]

/-- s at the head of the loop over symbols, at symbol k, with the entries es of the symbols below k written and
counted in PROGRESS (R190). -/
def atSymbol (k : Nat) (es : List (Byte × BitVec 5 × BitVec 31)) (s : State) : State :=
  goto (.writeHeader (.scan k)) (setProgress (BitVec.ofNat 32 es.length) (writeBits (es.flatMap entryBits) s))

section

variable (k : Nat) (es : List (Byte × BitVec 5 × BitVec 31)) (s : State)

@[simp] theorem atSymbol_busy : (atSymbol k es s).busy = s.busy := writeBits_busy _ s
@[simp] theorem atSymbol_codeLen : (atSymbol k es s).codeLen = s.codeLen := writeBits_codeLen _ s
@[simp] theorem atSymbol_codeVal : (atSymbol k es s).codeVal = s.codeVal := writeBits_codeVal _ s

theorem engineStep_atSymbol (hbusy : s.busy = true) :
    engineStep (atSymbol k es s) = .next (scanSymbol k (atSymbol k es s)) :=
  engineStep_writeHeader ((atSymbol_busy k es s).trans hbusy) rfl

theorem goto_atSymbol (j : Nat) : goto (.writeHeader (.scan j)) (atSymbol k es s) = atSymbol j es s :=
  goto_goto _ _ _

theorem RoomFor.atSymbol {n : Nat} (h : RoomFor n (writeBits (es.flatMap entryBits) s)) :
    RoomFor n (atSymbol k es s) :=
  (h.setProgress _).goto _

/-- One more entry written and counted. -/
theorem atSymbol_append (j : Nat) (x : Byte × BitVec 5 × BitVec 31) :
    goto (.writeHeader (.scan j)) (setProgress ((atSymbol k es s).progress + 1#32)
      (writeBits (entryBits x) (atSymbol k es s))) = atSymbol j (es ++ [x]) s := by
  have hcount : BitVec.ofNat 32 (es ++ [x]).length = BitVec.ofNat 32 es.length + 1#32 := by
    rw [List.length_append, List.length_singleton, BitVec.ofNat_add]
  rw [atSymbol, atSymbol, writeBits_goto, writeBits_setProgress, ← writeBits_append, List.flatMap_append,
    List.flatMap_singleton, hcount, goto_progress, setProgress_progress, setProgress_goto,
    setProgress_setProgress, goto_goto]

end

/-- The loop over symbols, from its start to symbol k (R190, R192). -/
theorem reaches_atSymbol {s : State} (hbusy : s.busy = true) {k : Nat} (hk : k ≤ 256)
    (hroom : RoomFor ((entriesBelow s.codeLen s.codeVal k).flatMap entryBits).length s) :
    Reaches (atSymbol 0 [] s) (atSymbol k (entriesBelow s.codeLen s.codeVal k) s) := by
  induction k with
  | zero => exact .refl _
  | succ k ih =>
    by_cases hzero : tabGet s.codeLen (BitVec.ofNat 8 k) = 0#5
    · rw [entriesBelow_succ_of_zero hzero] at hroom ⊢
      refine (ih (by omega) hroom).trans (.of_step ?_)
      rw [engineStep_atSymbol _ _ _ hbusy, scanSymbol, if_pos (by omega), atSymbol_codeLen, if_pos hzero,
        goto_atSymbol]
    · have hk8 : (BitVec.ofNat 8 k).toNat = k := by
        rw [BitVec.toNat_ofNat]
        omega
      rw [entriesBelow_succ_of_ne hzero, List.flatMap_append, List.flatMap_singleton] at hroom
      obtain ⟨hbefore, hentry⟩ := hroom.append
      refine (ih (by omega) hbefore).trans (.head (engineStep_atSymbol _ _ _ hbusy) ?_)
      rw [scanSymbol, if_pos (by omega), atSymbol_codeLen, if_neg hzero, entriesBelow_succ_of_ne hzero,
        ← atSymbol_append k]
      have hreach := reaches_afterEntry (b := BitVec.ofNat 8 k)
        (s := atSymbol k (entriesBelow s.codeLen s.codeVal k) s) ((atSymbol_busy _ _ s).trans hbusy)
        (by rw [atSymbol_codeLen, atSymbol_codeVal]; exact hentry.atSymbol k _ s)
      rwa [hk8, atSymbol_codeLen, atSymbol_codeVal] at hreach

/-- The end of the loop over symbols, the payload count and the completion (R190, R193). -/
theorem reaches_headerWritten {es : List (Byte × BitVec 5 × BitVec 31)} {s : State} (hbusy : s.busy = true)
    (hroom : RoomFor (wordBits s.total 32).length (writeBits (es.flatMap entryBits) s)) :
    Reaches (atSymbol 256 es s) (complete .headerWritten (takePayloadCount (setProgress (BitVec.ofNat 32 es.length)
      (writeBits (es.flatMap entryBits ++ wordBits s.total 32) s)))) := by
  have hbits : fieldBits .payload (takePayloadCount (atSymbol 256 es s)) = wordBits s.total 32 :=
    congrArg (wordBits · 32) (writeBits_total _ s)
  refine .head (engineStep_atSymbol 256 es s hbusy) ?_
  rw [scanSymbol, if_neg (by decide)]
  have hpayload := reaches_afterField (f := .payload) (s := takePayloadCount (atSymbol 256 es s))
    ((atSymbol_busy 256 es s).trans hbusy) (by rw [hbits]; exact (hroom.atSymbol 256 es s).takePayloadCount)
  rw [hbits, atSymbol, writeBits_takePayloadCount, writeBits_goto, writeBits_setProgress,
    ← writeBits_append] at hpayload
  exact hpayload

/-- The magic and num_entries, from the start of WRITE_HEADER to the head of the loop (R92, R93, R190). -/
theorem reaches_firstSymbol {s : State} {n : Nat} (hbusy : s.busy = true) (hseq : s.seq = .writeHeader .start)
    (hnum : s.numEntries.toNat = n)
    (hroom : RoomFor (unpacked magic ++ wordBits (BitVec.ofNat 32 (n % 256)) 8).length (bitWriterReset s)) :
    Reaches s (goto (.writeHeader (.scan 0))
      (writeBits (unpacked magic ++ wordBits (BitVec.ofNat 32 (n % 256)) 8) (bitWriterReset s))) := by
  obtain ⟨hroomMagic, hroomNum⟩ := hroom.append
  have hstart : Reaches s (startField (.magic 0) (bitWriterReset s)) := .of_step (engineStep_writeHeader hbusy hseq)
  have hmagic : Reaches _ (startField .numEntries (writeBits (unpacked magic) (bitWriterReset s))) :=
    reaches_afterMagic (i := 0) (k := 7) (s := bitWriterReset s) hbusy rfl hroomMagic
  have hvalue : fieldValue .numEntries (writeBits (unpacked magic) (bitWriterReset s)) =
      BitVec.ofNat 32 (n % 256) := by
    apply BitVec.eq_of_toNat_eq
    simp only [fieldValue, writeBits_numEntries, bitWriterReset_numEntries, BitVec.toNat_setWidth,
      BitVec.toNat_ofNat, hnum]
  have hbits : fieldBits .numEntries (writeBits (unpacked magic) (bitWriterReset s)) =
      wordBits (BitVec.ofNat 32 (n % 256)) 8 := congrArg (wordBits · 8) hvalue
  have hcount := reaches_afterField (f := .numEntries)
    ((writeBits_busy (unpacked magic) (bitWriterReset s)).trans hbusy) (by rw [hbits]; exact hroomNum)
  rw [hbits, ← writeBits_append] at hcount
  exact hstart.trans (hmagic.trans hcount)

/-- A whole WRITE_HEADER writes the header of the code table and TOTAL, from an empty writer (R90, R190). -/
theorem reaches_writeHeader {s : State} {es : List (Byte × BitVec 5 × BitVec 31)} (hbusy : s.busy = true)
    (hseq : s.seq = .writeHeader .start) (hprogress : s.progress = 0#32) (hes : es = tableEntries s.codeLen s.codeVal)
    (hnum : s.numEntries.toNat = es.length) (hroom : RoomFor (headerBits es s.total).length (bitWriterReset s)) :
    Reaches s (complete .headerWritten (takePayloadCount (setProgress (BitVec.ofNat 32 es.length)
      (writeBits (headerBits es s.total) (bitWriterReset s))))) := by
  obtain ⟨hroom, hroomPayload⟩ := hroom.append
  obtain ⟨hroomFirst, hroomEntries⟩ := hroom.append
  have hfirst := reaches_firstSymbol hbusy hseq hnum hroomFirst
  unfold headerBits
  generalize unpacked magic ++ wordBits (BitVec.ofNat 32 (es.length % 256)) 8 = l at *
  have hbusy' : (writeBits l (bitWriterReset s)).busy = true := (writeBits_busy l (bitWriterReset s)).trans hbusy
  have htotal : (writeBits l (bitWriterReset s)).total = s.total := writeBits_total l _
  have htable : entriesBelow (writeBits l (bitWriterReset s)).codeLen (writeBits l (bitWriterReset s)).codeVal 256 =
      es := by
    rw [writeBits_codeLen, writeBits_codeVal, entriesBelow_256, bitWriterReset_codeLen, bitWriterReset_codeVal,
      ← hes]
  have hzero : atSymbol 0 [] (writeBits l (bitWriterReset s)) =
      goto (.writeHeader (.scan 0)) (writeBits l (bitWriterReset s)) := by
    have hcount : setProgress 0#32 (writeBits l (bitWriterReset s)) = writeBits l (bitWriterReset s) := by
      rw [← writeBits_setProgress, ← hprogress]
      rfl
    exact congrArg _ hcount
  have hentries := reaches_atSymbol hbusy' (Nat.le_refl 256) (by rw [htable]; exact hroomEntries)
  rw [htable, hzero] at hentries
  have hend := reaches_headerWritten (es := es) hbusy' (by
    rw [htotal, ← writeBits_append]
    exact hroomPayload)
  rw [htotal, ← writeBits_append, ← List.append_assoc] at hend
  exact hfirst.trans (hentries.trans hend)

theorem length_entriesBelow_le (len : Vector (BitVec 5) 256) (val : Vector (BitVec 31) 256) (k : Nat) :
    (entriesBelow len val k).length ≤ k := by
  have hle := List.length_filter_le (fun b => tabGet len b != 0#5) ((List.range k).map (BitVec.ofNat 8))
  rw [List.length_map, List.length_range] at hle
  rwa [entriesBelow, List.length_map]

/-- Settles O27: the fields in order write the bits of the header, by induction on the magic and on the symbols, and
the bits make its bytes. -/
theorem writeHeaderRunWritesHeader : Obligations.WriteHeaderRunWritesHeader := by
  intro s es h hbusy hseq hprogress hes hnum hh hroom
  have hroom' : RoomFor h.length (bitWriterReset s) := by simpa [RoomFor] using hroom
  have hlen : es.length ≤ 256 := hes ▸ length_entriesBelow_le s.codeLen s.codeVal 256
  subst hh
  obtain ⟨n, hrun⟩ := reaches_writeHeader hbusy hseq hprogress hes hnum hroom'
  obtain ⟨bs, hout, hbits⟩ := writeBits_bytes (headerBits es s.total) (bitWriterReset s)
  have hhist : SameHist s (writeBits (headerBits es s.total) (bitWriterReset s)) :=
    ⟨writeBits_hist _ _, writeBits_total _ _⟩
  have hcodes : SameCodes s (writeBits (headerBits es s.total) (bitWriterReset s)) :=
    ⟨writeBits_codeLen _ _, writeBits_codeVal _ _, writeBits_numEntries _ _⟩
  have hfault : (writeBits (headerBits es s.total) (bitWriterReset s)).fault = s.fault := writeBits_fault _ _
  generalize writeBits (headerBits es s.total) (bitWriterReset s) = t at *
  obtain ⟨hwhole, hdrop⟩ := wholeBytes_eq_of_unpacked (l := headerBits es s.total) hbits (by
    rw [length_heldBits]
    exact t.bwCnt.isLt)
  refine ⟨n, _, hrun, rfl, rfl, ?_, hdrop.symm, hhist.2, ?_, hhist, hcodes, hfault⟩
  · rw [hwhole]
    exact hout
  · show (BitVec.ofNat 32 es.length).toNat = es.length
    rw [BitVec.toNat_ofNat]
    omega

end Sys2Proof.Machine

/-! PROOFS. A whole ENCODE (spec/45_encode.md R210, R211): the codewords of the stream, and the flush at its end. -/

namespace Sys2Proof.Machine

open Sys2Proof

/-- s with ts in the input FIFO. -/
def withInput (ts : List Token) (s : State) : State := { s with inFifo := ts }

theorem writeBits_withInput (l : List Bool) (ts : List Token) (s : State) :
    writeBits l (withInput ts s) = withInput ts (writeBits l s) :=
  writeBits_comm (fun _ _ => rfl) l s

theorem withInput_setProgress (ts : List Token) (v : Word) (s : State) :
    withInput ts (setProgress v s) = setProgress v (withInput ts s) := rfl

theorem isBitWrite_codeword (v : Word) : IsBitWrite (fun n => .encode (.write v n)) (fun _ => v) :=
  ⟨fun _ _ _ => rfl, fun _ _ hbusy hseq => engineStep_encode hbusy hseq⟩

/-- A byte with a codeword, from its checks to the next InPop (R97, R210, R211). -/
theorem reaches_afterSym {s : State} {b : Byte} (hbusy : s.busy = true) (hmore : s.progress ≠ s.payloadCount)
    (hcode : tabGet s.codeLen b ≠ 0#5)
    (hroom : RoomFor (codewordBits (tabGet s.codeLen b) (tabGet s.codeVal b)).length s) :
    Reaches (goto (.encode (.sym b)) s) (goto (.encode .pop) (setProgress (s.progress + 1#32)
      (writeBits (codewordBits (tabGet s.codeLen b) (tabGet s.codeVal b)) s))) := by
  rw [codewordBits, length_wordBits] at hroom
  have hchecks : encodeByte b (goto (.encode (.sym b)) s) =
      goto (.encode (.write ((tabGet s.codeVal b).setWidth 32) (tabGet s.codeLen b).toNat)) s :=
    (if_neg hmore).trans (if_neg hcode)
  have hsym := engineStep_encode (s := goto (.encode (.sym b)) s) hbusy rfl
  rw [encodeEvent, hchecks] at hsym
  have hbits := (isBitWrite_codeword ((tabGet s.codeVal b).setWidth 32)).reaches
    (s := goto (.encode (.write ((tabGet s.codeVal b).setWidth 32) (tabGet s.codeLen b).toNat)) s) hbusy rfl hroom
  have hend := engineStep_encode (p := .write ((tabGet s.codeVal b).setWidth 32) 0)
    (s := goto (.encode (.write ((tabGet s.codeVal b).setWidth 32) 0))
      (writeBits (codewordBits (tabGet s.codeLen b) (tabGet s.codeVal b)) s)) ((writeBits_busy _ s).trans hbusy) rfl
  rw [encodeEvent, goto_progress, writeBits_progress, setProgress_goto, goto_goto] at hend
  rw [writeBits_goto, goto_goto] at hbits
  exact .head hsym (hbits.trans (.of_step hend))

/-- Where ENCODE goes on after it popped a token (R210). -/
def encodeTook : Token → EncodePt
  | .eos => .eos
  | .byte b => .sym b

theorem engineStep_encode_pop {s : State} {x : Token} {rest : List Token} (hbusy : s.busy = true)
    (hin : s.inFifo = x :: rest) :
    engineStep (goto (.encode .pop) s) = .next (goto (.encode (encodeTook x)) (withInput rest s)) := by
  rw [engineStep_encode (s := goto (.encode .pop) s) (p := .pop) hbusy rfl]
  cases x <;> simp only [encodeEvent, inPop, goto_inFifo, hin] <;> rfl

/-- The stream, from its first InPop to the one that finds EOS (R97, R210). -/
theorem reaches_eos {bs : List Byte} {rest : List Token} {s : State} (hbusy : s.busy = true)
    (hin : s.inFifo = bs.map Token.byte ++ .eos :: rest) (hcount : s.progress.toNat + bs.length = s.payloadCount.toNat)
    (hcodes : ∀ b ∈ bs, tabGet s.codeLen b ≠ 0#5)
    (hroom : RoomFor (payloadBits s.codeLen s.codeVal bs).length s) :
    Reaches (goto (.encode .pop) s) (goto (.encode .eos) (setProgress s.payloadCount
      (writeBits (payloadBits s.codeLen s.codeVal bs) (withInput rest s)))) := by
  induction bs generalizing s with
  | nil =>
    have hprogress : s.payloadCount = s.progress := BitVec.eq_of_toNat_eq hcount.symm
    rw [hprogress]
    exact .of_step (engineStep_encode_pop hbusy hin)
  | cons b bs ih =>
    have hmore : s.progress ≠ s.payloadCount := by
      intro h
      rw [h, List.length_cons] at hcount
      omega
    have hnext : (s.progress + 1#32).toNat + bs.length = s.payloadCount.toNat := by
      rw [List.length_cons] at hcount
      have hlt := s.payloadCount.isLt
      rw [BitVec.toNat_add, BitVec.toNat_ofNat]
      omega
    have hbits : payloadBits s.codeLen s.codeVal (b :: bs) =
        codewordBits (tabGet s.codeLen b) (tabGet s.codeVal b) ++ payloadBits s.codeLen s.codeVal bs := rfl
    rw [hbits] at hroom ⊢
    have hbyte := reaches_afterSym (s := withInput (bs.map Token.byte ++ .eos :: rest) s) hbusy hmore
      (hcodes b List.mem_cons_self) hroom.append.1
    have hroomRest := (RoomFor.append
      (s := setProgress (s.progress + 1#32) (withInput (bs.map Token.byte ++ .eos :: rest) s)) hroom).2
    have hrest := ih (s := writeBits (codewordBits (tabGet s.codeLen b) (tabGet s.codeVal b))
        (setProgress (s.progress + 1#32) (withInput (bs.map Token.byte ++ .eos :: rest) s)))
      ((writeBits_busy _ _).trans hbusy) (writeBits_inFifo _ _)
      (by rw [writeBits_progress, writeBits_payloadCount]; exact hnext)
      (by rw [writeBits_codeLen]; exact fun c hc => hcodes c (List.mem_cons_of_mem b hc))
      (by rw [writeBits_codeLen, writeBits_codeVal]; exact hroomRest)
    rw [writeBits_payloadCount, writeBits_codeLen, writeBits_codeVal, ← writeBits_withInput, ← writeBits_append,
      withInput_setProgress, writeBits_setProgress, writeBits_setProgress, setProgress_setProgress] at hrest
    exact .head (engineStep_encode_pop hbusy hin) (hbyte.trans hrest)

/-- s after BitFlush: held bits are padded to a byte and pushed (R98, R144). -/
def flushed (s : State) : State := if s.bwCnt = 0#3 then s else bitFlush s

theorem flushed_outFifo (s : State) : (flushed s).outFifo = s.outFifo ++ packed (heldBits s.bwBuf s.bwCnt) := by
  rw [packed_heldBits, flushed]
  split
  · exact (List.append_nil _).symm
  · rfl

theorem flushed_bwCnt (s : State) : (flushed s).bwCnt = 0#3 := by
  unfold flushed
  split
  next hzero => exact hzero
  next => rfl

/-- What BitWriterReset and OutPush leave unchanged, BitFlush leaves unchanged (R144). -/
theorem flushed_keeps {α : Type} (f : State → α) (h : ∀ t, f (bitFlush t) = f t) (s : State) :
    f (flushed s) = f s := by
  unfold flushed
  split
  · rfl
  · exact h s

/-- BitFlush and the completion, with room for the last byte (R98, R144, R210). -/
theorem reaches_built {s : State} (hbusy : s.busy = true) (hseq : s.seq = .encode .flush)
    (hroom : s.bwCnt ≠ 0#3 → outRoom s = true) : Reaches s (complete .built (flushed s)) := by
  have hstep := engineStep_encode hbusy hseq
  rw [encodeEvent, encodeFlush] at hstep
  unfold flushed
  by_cases hzero : s.bwCnt = 0#3
  · rw [if_pos hzero] at hstep ⊢
    exact .of_step hstep
  · rw [if_neg hzero] at hstep ⊢
    rw [if_pos (hroom hzero)] at hstep
    exact .head hstep (.of_step (engineStep_encode (s := bitFlush s) hbusy hseq))

/-- At EOS after the last byte, ENCODE flushes and completes (R210, R212). -/
theorem reaches_built_of_eos {s : State} (hbusy : s.busy = true) (hroom : s.bwCnt ≠ 0#3 → outRoom s = true) :
    Reaches (goto (.encode .eos) (setProgress s.payloadCount s))
      (complete .built (flushed (goto (.encode .flush) (setProgress s.payloadCount s)))) := by
  have hstep := engineStep_encode (s := goto (.encode .eos) (setProgress s.payloadCount s)) hbusy rfl
  have heos : encodeEos (goto (.encode .eos) (setProgress s.payloadCount s)) =
      goto (.encode .flush) (setProgress s.payloadCount s) := if_pos rfl
  rw [encodeEvent, heos] at hstep
  exact .head hstep (reaches_built (s := goto (.encode .flush) (setProgress s.payloadCount s)) hbusy rfl hroom)

/-- Settles O31: byte after byte the codewords' bits are written, by induction on the stream, and the flush makes whole
bytes of them. -/
theorem encodeRunWritesPayload : Obligations.EncodeRunWritesPayload := by
  intro s bs rest l hbusy hseq hprogress hin hcount hcodes hl hroom
  have hroom' : RoomFor (payloadBits s.codeLen s.codeVal bs).length s := by
    rw [hl, List.length_append, length_heldBits] at hroom
    unfold RoomFor
    omega
  have hstream := reaches_eos hbusy hin (by simpa [hprogress] using hcount.symm) hcodes hroom'
  rw [← hseq] at hstream
  obtain ⟨cs, hout, hbits⟩ := writeBits_bytes (payloadBits s.codeLen s.codeVal bs) (withInput rest s)
  have hkeeps {α : Type} (f : State → α) (h : ∀ b t, f (writeBit b t) = f t) :
      f (writeBits (payloadBits s.codeLen s.codeVal bs) (withInput rest s)) = f (withInput rest s) :=
    writeBits_keeps f h _ _
  generalize writeBits (payloadBits s.codeLen s.codeVal bs) (withInput rest s) = t at *
  have hparams : t.params = s.params := hkeeps State.params (fun _ _ => rfl)
  have hpayload : t.payloadCount = s.payloadCount := hkeeps State.payloadCount (fun _ _ => rfl)
  have hl' : l = unpacked cs ++ heldBits t.bwBuf t.bwCnt := hl.trans hbits
  have hlast : t.bwCnt ≠ 0#3 → outRoom t = true := by
    intro hheld
    rw [hl', List.length_append, length_unpacked, length_heldBits] at hroom
    rw [outRoom_iff, hout, hparams, List.length_append]
    show s.outFifo.length + cs.length < _
    bv_omega
  rw [← hpayload] at hstream ⊢
  obtain ⟨n, hrun⟩ := hstream.trans
    (reaches_built_of_eos ((hkeeps State.busy (fun _ _ => rfl)).trans hbusy) hlast)
  have hflush {α : Type} (f : State → α) (h : ∀ u, f (bitFlush u) = f u) :
      f (flushed (goto (.encode .flush) (setProgress t.payloadCount t))) =
        f (goto (.encode .flush) (setProgress t.payloadCount t)) := flushed_keeps f h _
  refine ⟨n, _, hrun, rfl, rfl, ?_, flushed_bwCnt _, ?_, ?_, ⟨?_, ?_, ?_⟩, ?_⟩
  · rw [hl', packed_unpacked_append, ← List.append_assoc]
    exact (flushed_outFifo _).trans (congrArg (· ++ _) hout)
  · exact (hflush State.inFifo (fun _ => rfl)).trans (hkeeps State.inFifo (fun _ _ => rfl))
  · exact hflush State.progress (fun _ => rfl)
  · exact (hflush State.codeLen (fun _ => rfl)).trans (hkeeps State.codeLen (fun _ _ => rfl))
  · exact (hflush State.codeVal (fun _ => rfl)).trans (hkeeps State.codeVal (fun _ _ => rfl))
  · exact (hflush State.numEntries (fun _ => rfl)).trans (hkeeps State.numEntries (fun _ _ => rfl))
  · exact (hflush State.fault (fun _ => rfl)).trans (hkeeps State.fault (fun _ _ => rfl))

end Sys2Proof.Machine

/-! PROOFS. READ_HEADER (spec/44_header.md R195 to R200): its points after the magic, and a whole READ_HEADER, from the
unread bits of the reader and the bytes of the input FIFO (spec/41_bitio.md R145, R148). -/

namespace Sys2Proof.Machine

open Sys2Proof

/-! ## The points after the magic -/

/-- The duplicate check of R198, entry by entry. -/
theorem duplicateOf_eq_none_iff (t : Vector DtabEntry 256) (e : Byte) (len : BitVec 5) (val : BitVec 31) :
    duplicateOf t e.toNat len val = none ↔
      ∀ c : Byte, c.toNat < e.toNat → ¬ ((tabGet t c).len = len ∧ (tabGet t c).val = val) := by
  refine ⟨fun h c hc hsame => not_entryIs_of_duplicateOf h hc hsame.1 hsame.2, fun h => ?_⟩
  refine List.find?_eq_none.2 fun j hj hentry => ?_
  have hlt := List.mem_range.1 hj
  have he := e.isLt
  refine h (BitVec.ofNat 8 j) ?_ (by simpa [entryIs] using hentry)
  rw [BitVec.toNat_ofNat]
  omega

theorem afterCode_of_new {s : State} {e : Byte} {n : Nat} {sym : Byte} {len : BitVec 5} {val : BitVec 31}
    (hnew : ∀ c : Byte, c.toNat < e.toNat → ¬ ((tabGet s.dtab c).len = len ∧ (tabGet s.dtab c).val = val)) :
    afterCode e n sym len val s =
      if e.toNat + 1 < n then startRead (.sym (e + 1#8) n) (storeEntry e sym len val s)
      else startRead .payload (storeEntry e sym len val s) := by
  rw [afterCode, (duplicateOf_eq_none_iff _ _ _ _).2 hnew]

theorem exec_afterRead {s : State} {f : RField} {v : Word} (hbusy : s.busy = true)
    (hseq : s.seq = .readHeader (.bits f 0 v)) : exec .readHeader s = .next (afterRead f v s) :=
  exec_readHeader_running hbusy hseq

theorem entryCount_setWidth (v : Word) :
    entryCount (v.setWidth 8) = if v.toNat % 256 = 0 then 256 else v.toNat % 256 := by
  simp [entryCount, ← BitVec.toNat_inj]

/-- Settles O37: each point is afterRead of its field; a codeword no earlier entry has is not a duplicate. -/
theorem readHeaderStoresEntries : Obligations.ReadHeaderStoresEntries := by
  intro s v hbusy
  refine ⟨fun hseq => ?_, fun e n hseq => ?_, fun e n sym hseq hlen => ?_, fun e n sym l hseq hnew => ?_,
    fun hseq => exec_afterRead hbusy hseq⟩
  · rw [exec_afterRead hbusy hseq, afterRead, entryCount_setWidth]
    rfl
  · exact exec_afterRead hbusy hseq
  · have hne : v.setWidth 5 ≠ 0#5 := by
      rw [Ne, ← BitVec.toNat_inj]
      simpa using hlen
    rw [exec_afterRead hbusy hseq, afterRead, if_neg hne, startRead, readWidth, BitVec.toNat_setWidth]
    rfl
  · rw [exec_afterRead hbusy hseq, afterRead]
    refine congrArg Host.Outcome.next ((afterCode_of_new hnew).trans ?_)
    split <;> rfl

/-! ## Unread bits -/

/-- What is still to read: the unread bits of the reader, then the bytes at the front of the input FIFO, before rest,
are the bits l (R145). -/
def Unread (l : List Bool) (rest : List Token) (s : State) : Prop :=
  ∃ bs, s.inFifo = bs.map Token.byte ++ rest ∧ l = unreadBits s.brBuf s.brCnt ++ unpacked bs

theorem unreadBits_zero (buf : Byte) : unreadBits buf 0#4 = [] := rfl

theorem unreadBits_of_ne_zero (buf : Byte) {cnt : BitVec 4} (h : cnt ≠ 0#4) :
    unreadBits buf cnt = readerBit buf cnt :: unreadBits buf (cnt - 1#4) := by
  obtain ⟨n, hn⟩ : ∃ n, cnt.toNat = n + 1 := Nat.exists_eq_succ_of_ne_zero fun h0 => h (BitVec.eq_of_toNat_eq h0)
  have hpred : (cnt - 1#4).toNat = n := by bv_omega
  rw [unreadBits, unreadBits, hn, hpred, wordBits, readerBit, hn, getLsbD_setWidth_of_byte, Nat.add_sub_cancel]

/-- The state after a bit step of the reader that finds a bit (R145). -/
def dropBit (s : State) : State :=
  if s.brCnt = 0#4 then
    match s.inFifo with
    | .byte b :: rest => { s with inFifo := rest, brBuf := b, brCnt := 7#4 }
    | _ => s
  else { s with brCnt := s.brCnt - 1#4 }

theorem dropBit_of_byte {s : State} {b : Byte} {rest : List Token} (hzero : s.brCnt = 0#4)
    (hin : s.inFifo = .byte b :: rest) : dropBit s = { s with inFifo := rest, brBuf := b, brCnt := 7#4 } := by
  simp [dropBit, hzero, hin]

theorem dropBit_of_held {s : State} (hheld : s.brCnt ≠ 0#4) : dropBit s = { s with brCnt := s.brCnt - 1#4 } :=
  if_neg hheld

/-- The next unread bit is the one a bit step reads, and the others are left (R145, R148). -/
theorem readBit_of_unread {b : Bool} {l : List Bool} {rest : List Token} {s : State} (h : Unread (b :: l) rest s) :
    readBit s = .bit b (dropBit s) ∧ Unread l rest (dropBit s) := by
  obtain ⟨bs, hin, hbits⟩ := h
  by_cases hheld : s.brCnt = 0#4
  · rw [hheld, unreadBits_zero, List.nil_append] at hbits
    cases bs with
    | nil => cases hbits
    | cons c cs =>
      have hbyte : byteBits c = readerBit c 8#4 :: unreadBits c 7#4 := unreadBits_of_ne_zero c (cnt := 8#4) (by decide)
      rw [unpacked_cons, hbyte, List.cons_append, List.cons.injEq] at hbits
      obtain ⟨rfl, hl⟩ := hbits
      rw [dropBit_of_byte hheld hin]
      exact ⟨by simp [readBit, inPop, hheld, hin], cs, rfl, hl⟩
  · rw [unreadBits_of_ne_zero _ hheld, List.cons_append, List.cons.injEq] at hbits
    obtain ⟨rfl, hl⟩ := hbits
    rw [dropBit_of_held hheld]
    exact ⟨if_neg hheld, bs, hin, hl⟩

/-- Fewer than 8 unread bits are all in the reader (R145). -/
theorem Unread.of_length_lt {l : List Bool} {rest : List Token} {s : State} (h : Unread l rest s)
    (hlen : l.length < 8) : s.inFifo = rest ∧ unreadBits s.brBuf s.brCnt = l := by
  obtain ⟨bs, hin, rfl⟩ := h
  rw [List.length_append, length_unpacked] at hlen
  obtain rfl : bs = [] := List.eq_nil_of_length_eq_zero (by omega)
  exact ⟨hin, (List.append_nil _).symm⟩

/-! ## A sequence of bits read -/

/-- The state after n bit steps of the reader that each find a bit (R145). -/
def dropBits : Nat → State → State
  | 0, s => s
  | n + 1, s => dropBits n (dropBit s)

theorem dropBits_add (m n : Nat) (s : State) : dropBits (m + n) s = dropBits n (dropBits m s) := by
  induction m generalizing s with
  | zero => rw [Nat.zero_add, dropBits]
  | succ m ih => rw [Nat.succ_add, dropBits, dropBits, ih]

theorem Unread.dropBits {l m : List Bool} {rest : List Token} {s : State} (h : Unread (l ++ m) rest s) :
    Unread m rest (dropBits l.length s) := by
  induction l generalizing s with
  | nil => exact h
  | cons b l ih => exact ih (readBit_of_unread h).2

/-- A bit step of the reader changes the reader and the input FIFO alone. -/
theorem dropBit_keeps {α : Type} (f : State → α)
    (h : ∀ ts buf cnt t, f { t with inFifo := ts, brBuf := buf, brCnt := cnt } = f t) (s : State) :
    f (dropBit s) = f s := by
  unfold dropBit
  split
  · split
    · exact h _ _ _ s
    · rfl
  · exact h s.inFifo s.brBuf _ s

theorem dropBits_keeps {α : Type} (f : State → α)
    (h : ∀ ts buf cnt t, f { t with inFifo := ts, brBuf := buf, brCnt := cnt } = f t) (n : Nat) (s : State) :
    f (dropBits n s) = f s := by
  induction n generalizing s with
  | zero => rfl
  | succ n ih => rw [dropBits, ih, dropBit_keeps f h]

section

variable (n : Nat) (s : State)

@[simp] theorem dropBits_busy : (dropBits n s).busy = s.busy := dropBits_keeps State.busy (fun _ _ _ _ => rfl) n s
@[simp] theorem dropBits_fault : (dropBits n s).fault = s.fault := dropBits_keeps State.fault (fun _ _ _ _ => rfl) n s
@[simp] theorem dropBits_dtab : (dropBits n s).dtab = s.dtab := dropBits_keeps State.dtab (fun _ _ _ _ => rfl) n s
@[simp] theorem dropBits_dnum : (dropBits n s).dnum = s.dnum := dropBits_keeps State.dnum (fun _ _ _ _ => rfl) n s
@[simp] theorem dropBits_progress : (dropBits n s).progress = s.progress :=
  dropBits_keeps State.progress (fun _ _ _ _ => rfl) n s

end

theorem dropBit_goto (q : Seq) (s : State) : dropBit (goto q s) = goto q (dropBit s) := by
  unfold dropBit
  rw [goto_brCnt, goto_inFifo]
  split
  · split <;> rfl
  · rfl

/-! ## The fields of READ_HEADER -/

/-- The bits of a field are shifted into its accumulator (R145). -/
theorem reaches_readBits {f : RField} {x l : List Bool} {rest : List Token} {acc : Word} {s : State}
    (hbusy : s.busy = true) (h : Unread (x ++ l) rest s) :
    Reaches (goto (.readHeader (.bits f x.length acc)) s)
      (goto (.readHeader (.bits f 0 (x.foldl BitVec.shiftConcat acc))) (dropBits x.length s)) := by
  induction x generalizing acc s with
  | nil => exact .refl _
  | cons b x ih =>
    obtain ⟨hbit, hrest⟩ := readBit_of_unread (s := goto (.readHeader (.bits f (x.length + 1) acc)) s) h
    have hstep := engineStep_readHeader (s := goto (.readHeader (.bits f (x.length + 1) acc)) s) hbusy rfl
    simp only [readEvent, hbit] at hstep
    rw [dropBit_goto] at hstep hrest
    exact .head hstep (ih (s := dropBit s) ((dropBit_keeps State.busy (fun _ _ _ _ => rfl) s).trans hbusy) hrest)

theorem afterRead_goto (f : RField) (v : Word) (q : Seq) (s : State) :
    afterRead f v (goto q s) = afterRead f v s := by
  cases f with
  | magic m =>
    simp only [afterRead, checkMagic]
    split
    · rfl
    · split <;> rfl
  | len e n sym =>
    simp only [afterRead]
    split <;> rfl
  | val e n sym len =>
    simp only [afterRead, afterCode, goto_dtab]
    split
    · rfl
    · split <;> rfl
  | numEntries | sym | payload => rfl

/-- A field, from its start to what follows its last bit (R195). -/
theorem reaches_afterRead {f : RField} {v : Word} {l : List Bool} {rest : List Token} {s : State}
    (hbusy : s.busy = true) (hv : v.toNat < 2 ^ readWidth f) (h : Unread (wordBits v (readWidth f) ++ l) rest s) :
    Reaches (startRead f s) (afterRead f v (dropBits (readWidth f) s)) ∧ Unread l rest (dropBits (readWidth f) s) := by
  have hleft := h.dropBits
  have hbits := reaches_readBits (f := f) (acc := 0#32) hbusy h
  rw [length_wordBits, foldl_shiftConcat_of_lt hv] at hbits
  rw [length_wordBits] at hleft
  have hend := engineStep_readHeader (s := goto (.readHeader (.bits f 0 v)) (dropBits (readWidth f) s))
    ((dropBits_busy _ s).trans hbusy) rfl
  rw [readEvent, afterRead_goto] at hend
  exact ⟨hbits.trans (.of_step hend), hleft⟩

theorem setWidth_setWidth_of_le {n : Nat} (hn : n ≤ 32) (x : BitVec n) : (x.setWidth 32).setWidth n = x := by
  rw [BitVec.setWidth_setWidth_of_le _ hn, BitVec.setWidth_eq]

theorem toNat_setWidth_lt {n k : Nat} {x : BitVec n} (h : x.toNat < 2 ^ k) : (x.setWidth 32).toNat < 2 ^ k := by
  rw [BitVec.toNat_setWidth]
  exact (Nat.mod_le _ _).trans_lt h

/-- The magic, from byte m.length on (R92, R196). -/
theorem reaches_afterMagicRead {m cs : List Byte} {l : List Bool} {rest : List Token} {s : State}
    (hmagic : m ++ cs = magic) (hm : m.length < 8) (hbusy : s.busy = true) (h : Unread (unpacked cs ++ l) rest s) :
    Reaches (startRead (.magic m) s) (startRead .numEntries (dropBits (unpacked cs).length s)) := by
  induction cs generalizing m s with
  | nil =>
    rw [List.append_nil] at hmagic
    exact absurd hm (by rw [hmagic]; decide)
  | cons c cs ih =>
    have hmagic' : (m ++ [c]) ++ cs = magic := (List.append_assoc _ _ _).trans hmagic
    rw [unpacked_cons, List.append_assoc] at h
    obtain ⟨hbyte, hrest⟩ := reaches_afterRead (f := .magic m) (v := c.setWidth 32) hbusy
      (toNat_setWidth_lt c.isLt) h
    rw [afterRead, setWidth_setWidth_of_le (by decide)] at hbyte
    rw [unpacked_cons, List.length_append, length_byteBits, dropBits_add]
    by_cases hlen : m.length + 1 < 8
    · rw [if_pos hlen] at hbyte
      exact hbyte.trans (ih hmagic' (by simpa using hlen) ((dropBits_busy _ s).trans hbusy) hrest)
    · have hlast : cs = [] := by
        have hcount : (m ++ [c] ++ cs).length = 8 := by rw [hmagic']; rfl
        rw [List.length_append, List.length_append, List.length_singleton] at hcount
        exact List.eq_nil_of_length_eq_zero (by omega)
      have hcheck : magicMismatch magic = none := by decide
      rw [hlast, List.append_nil] at hmagic'
      rw [if_neg hlen, checkMagic, hmagic', hcheck] at hbyte
      rw [hlast]
      exact hbyte

theorem afterRead_sym (e : Byte) (n : Nat) (sym : Byte) (s : State) :
    afterRead (.sym e n) (sym.setWidth 32) s = startRead (.len e n sym) s := by
  rw [afterRead, setWidth_setWidth_of_le (by decide)]

theorem afterRead_len {len : BitVec 5} (hlen : len ≠ 0#5) (e : Byte) (n : Nat) (sym : Byte) (s : State) :
    afterRead (.len e n sym) (len.setWidth 32) s = startRead (.val e n sym len) s := by
  rw [afterRead, setWidth_setWidth_of_le (by decide), if_neg hlen]

theorem afterRead_val (e : Byte) (n : Nat) (sym : Byte) (len : BitVec 5) (val : BitVec 31) (s : State) :
    afterRead (.val e n sym len) (val.setWidth 32) s = afterCode e n sym len val s := by
  rw [afterRead, setWidth_setWidth_of_le (by decide)]

/-- An entry, from its symbol to the duplicate check (R94, R195). -/
theorem reaches_afterCode {x : Byte × BitVec 5 × BitVec 31} {e : Byte} {n : Nat} {l : List Bool} {rest : List Token}
    {s : State} (hbusy : s.busy = true) (hlen : x.2.1 ≠ 0#5) (hval : x.2.2.toNat < 2 ^ x.2.1.toNat)
    (h : Unread (entryBits x ++ l) rest s) :
    Reaches (startRead (.sym e n) s) (afterCode e n x.1 x.2.1 x.2.2 (dropBits (entryBits x).length s)) := by
  obtain ⟨sym, len, val⟩ := x
  have hcount : (entryBits (sym, len, val)).length = 8 + 5 + len.toNat := by
    simp only [entryBits, codewordBits, List.length_append, length_wordBits]
  have hbusy' (k : Nat) : (dropBits k s).busy = true := (dropBits_busy k s).trans hbusy
  rw [entryBits, List.append_assoc, List.append_assoc] at h
  obtain ⟨hsym, h⟩ := reaches_afterRead (f := .sym e n) hbusy (toNat_setWidth_lt sym.isLt) h
  obtain ⟨hlen', h⟩ := reaches_afterRead (f := .len e n sym) (hbusy' 8) (toNat_setWidth_lt len.isLt) h
  rw [readWidth, ← dropBits_add] at h
  obtain ⟨hval', -⟩ := reaches_afterRead (f := .val e n sym len) (hbusy' (8 + 5)) (toNat_setWidth_lt hval) h
  rw [afterRead_sym] at hsym
  rw [afterRead_len hlen] at hlen'
  rw [afterRead_val] at hval'
  rw [hcount, dropBits_add, dropBits_add]
  exact hsym.trans (hlen'.trans hval')

/-! ## A whole READ_HEADER -/

/-- The decoder table holds the entries es in their order, and DNUM and PROGRESS are their number (R45, R195). -/
structure HoldsEntries (es : List (Byte × BitVec 5 × BitVec 31)) (s : State) : Prop where
  dnum : s.dnum.toNat = es.length
  progress : s.progress.toNat = es.length
  entry : ∀ (e : Nat) (x : Byte × BitVec 5 × BitVec 31), es[e]? = some x →
    tabGet s.dtab (BitVec.ofNat 8 e) = { valid := true, sym := x.1, len := x.2.1, val := x.2.2 }

theorem HoldsEntries.dropBits {es : List (Byte × BitVec 5 × BitVec 31)} {s : State} (h : HoldsEntries es s) (n : Nat) :
    HoldsEntries es (Machine.dropBits n s) := by
  obtain ⟨hdnum, hprogress, hentry⟩ := h
  exact ⟨by rwa [dropBits_dnum], by rwa [dropBits_progress], by rwa [dropBits_dtab]⟩

theorem toNat_ofNat_byte {k : Nat} (hk : k < 256) : (BitVec.ofNat 8 k).toNat = k :=
  (BitVec.toNat_ofNat _ _).trans (Nat.mod_eq_of_lt hk)

/-- The next entry stored (R195). -/
theorem HoldsEntries.storeEntry {es : List (Byte × BitVec 5 × BitVec 31)} {s : State} (h : HoldsEntries es s)
    (hlen : es.length < 256) (x : Byte × BitVec 5 × BitVec 31) :
    HoldsEntries (es ++ [x]) (Machine.storeEntry (BitVec.ofNat 8 es.length) x.1 x.2.1 x.2.2 s) := by
  have hindex := toNat_ofNat_byte hlen
  have hcount : (es ++ [x]).length = es.length + 1 := List.length_append
  constructor
  case dnum =>
    show (BitVec.ofNat 9 ((BitVec.ofNat 8 es.length).toNat + 1)).toNat = _
    rw [hindex, hcount, BitVec.toNat_ofNat]
    omega
  case progress =>
    show (BitVec.ofNat 32 ((BitVec.ofNat 8 es.length).toNat + 1)).toNat = _
    rw [hindex, hcount, BitVec.toNat_ofNat]
    omega
  case entry =>
    intro e y hy
    show tabGet (tabSet s.dtab (BitVec.ofNat 8 es.length) _) (BitVec.ofNat 8 e) = _
    rw [List.getElem?_append] at hy
    split at hy
    next hlt =>
      have hne : BitVec.ofNat 8 es.length ≠ BitVec.ofNat 8 e := by
        rw [Ne, ← BitVec.toNat_inj, hindex, toNat_ofNat_byte (by omega)]
        omega
      rw [tabGet_tabSet_ne _ _ hne]
      exact h.entry e y hy
    next hge =>
      rw [List.getElem?_singleton, Option.ite_none_right_eq_some, Option.some.injEq] at hy
      obtain ⟨hzero, rfl⟩ := hy
      obtain rfl : e = es.length := by omega
      exact tabGet_tabSet_self _ _ _

/-- A codeword that no entry of es has is no duplicate of theirs (R198). -/
theorem HoldsEntries.new {es : List (Byte × BitVec 5 × BitVec 31)} {s : State} (h : HoldsEntries es s)
    {x : Byte × BitVec 5 × BitVec 31} (hx : ∀ y ∈ es, y.2 ≠ x.2) (c : Byte) (hc : c.toNat < es.length) :
    ¬ ((tabGet s.dtab c).len = x.2.1 ∧ (tabGet s.dtab c).val = x.2.2) := by
  have hentry := h.entry c.toNat es[c.toNat] (List.getElem?_eq_getElem hc)
  rw [BitVec.ofNat_toNat, BitVec.setWidth_eq] at hentry
  rw [hentry]
  exact fun hsame => hx _ (List.getElem_mem hc) (Prod.ext hsame.1 hsame.2)

/-- One entry, from its symbol to the next field (R94, R95, R195). -/
theorem reaches_stored {done : List (Byte × BitVec 5 × BitVec 31)} {x : Byte × BitVec 5 × BitVec 31} {n : Nat}
    {l : List Bool} {rest : List Token} {s : State} (hbusy : s.busy = true) (hholds : HoldsEntries done s)
    (hdone : done.length < 256) (hfit : x.2.1 ≠ 0#5 ∧ x.2.2.toNat < 2 ^ x.2.1.toNat) (hnew : ∀ y ∈ done, y.2 ≠ x.2)
    (h : Unread (entryBits x ++ l) rest s) :
    ∃ t, Reaches (startRead (.sym (BitVec.ofNat 8 done.length) n) s)
        (if done.length + 1 < n then startRead (.sym (BitVec.ofNat 8 (done.length + 1)) n) t
          else startRead .payload t) ∧
      HoldsEntries (done ++ [x]) t ∧ Unread l rest t ∧ t.busy = true ∧ t.fault = s.fault := by
  have hread := reaches_afterCode (e := BitVec.ofNat 8 done.length) (n := n) hbusy hfit.1 hfit.2 h
  have hholds' := hholds.dropBits (entryBits x).length
  have hunread := h.dropBits
  have hbusy' := (dropBits_busy (entryBits x).length s).trans hbusy
  have hfault := dropBits_fault (entryBits x).length s
  generalize dropBits (entryBits x).length s = t at *
  have hindex := toNat_ofNat_byte hdone
  rw [afterCode_of_new (hindex.symm ▸ hholds'.new hnew), hindex, ← BitVec.ofNat_add] at hread
  exact ⟨_, hread, hholds'.storeEntry hdone x, hunread, hbusy', hfault⟩

theorem ne_of_mem_before {es done todo : List (Byte × BitVec 5 × BitVec 31)} {x : Byte × BitVec 5 × BitVec 31}
    (hdistinct : es.Pairwise (fun x y => x.2 ≠ y.2)) (hes : done ++ x :: todo = es) :
    ∀ y ∈ done, y.2 ≠ x.2 := by
  subst hes
  obtain ⟨-, -, hcross⟩ := List.pairwise_append.1 hdistinct
  exact fun y hy => hcross y hy x List.mem_cons_self

/-- The table, from an entry to the payload count (R95, R195). -/
theorem reaches_payload {es : List (Byte × BitVec 5 × BitVec 31)} (hmax : es.length ≤ 256)
    (hfit : ∀ x ∈ es, x.2.1 ≠ 0#5 ∧ x.2.2.toNat < 2 ^ x.2.1.toNat) (hdistinct : es.Pairwise (fun x y => x.2 ≠ y.2))
    {done todo : List (Byte × BitVec 5 × BitVec 31)} {x : Byte × BitVec 5 × BitVec 31}
    (hes : done ++ x :: todo = es) {l : List Bool} {rest : List Token} {s : State} (hbusy : s.busy = true)
    (hholds : HoldsEntries done s) (h : Unread ((x :: todo).flatMap entryBits ++ l) rest s) :
    ∃ t, Reaches (startRead (.sym (BitVec.ofNat 8 done.length) es.length) s) (startRead .payload t) ∧
      HoldsEntries es t ∧ Unread l rest t ∧ t.busy = true ∧ t.fault = s.fault := by
  induction todo generalizing done x s with
  | nil =>
    have hnew := ne_of_mem_before hdistinct hes
    have hx := hfit x (hes ▸ List.mem_append_right done List.mem_cons_self)
    subst hes
    rw [List.length_append, List.length_singleton] at hmax ⊢
    rw [List.flatMap_singleton] at h
    obtain ⟨t, hrun, hrest⟩ := reaches_stored (n := done.length + 1) hbusy hholds hmax hx hnew h
    rw [if_neg (Nat.lt_irrefl _)] at hrun
    exact ⟨t, hrun, hrest⟩
  | cons y todo ih =>
    have hes' : (done ++ [x]) ++ y :: todo = es := (List.append_assoc _ _ _).trans hes
    have hx := hfit x (hes ▸ List.mem_append_right done List.mem_cons_self)
    have hlen : done.length + (todo.length + 2) = es.length := by
      rw [← hes, List.length_append, List.length_cons, List.length_cons]
    rw [List.flatMap_cons, List.append_assoc] at h
    obtain ⟨t, hrun, hholds', hunread, hbusy', hfault⟩ := reaches_stored (n := es.length) hbusy hholds (by omega) hx
      (ne_of_mem_before hdistinct hes) h
    rw [if_pos (by omega)] at hrun
    obtain ⟨u, hrun', hholds'', hunread', hbusy'', hfault'⟩ := ih hes' hbusy' hholds' hunread
    rw [List.length_append, List.length_singleton] at hrun'
    exact ⟨u, hrun.trans hrun', hholds'', hunread', hbusy'', hfault'.trans hfault⟩

theorem entryCount_length_mod {n : Nat} (hmin : 1 ≤ n) (hmax : n ≤ 256) :
    entryCount ((BitVec.ofNat 32 (n % 256)).setWidth 8) = n := by
  rw [entryCount_setWidth, BitVec.toNat_ofNat]
  split <;> omega

/-- The magic and num_entries, to the first entry (R92, R93, R195). -/
theorem reaches_firstEntry {s : State} {n : Nat} {l : List Bool} {rest : List Token} (hbusy : s.busy = true)
    (hholds : HoldsEntries [] s) (hmin : 1 ≤ n) (hmax : n ≤ 256)
    (h : Unread (unpacked magic ++ (wordBits (BitVec.ofNat 32 (n % 256)) 8 ++ l)) rest s) :
    ∃ t, Reaches (startRead (.magic []) s) (startRead (.sym 0#8 n) t) ∧
      HoldsEntries [] t ∧ Unread l rest t ∧ t.busy = true ∧ t.fault = s.fault := by
  have hmagic := reaches_afterMagicRead (m := []) (cs := magic) rfl (by decide) hbusy h
  have hunread := h.dropBits
  have hholds' := hholds.dropBits (unpacked magic).length
  have hbusy' := (dropBits_busy (unpacked magic).length s).trans hbusy
  have hfault' := dropBits_fault (unpacked magic).length s
  generalize dropBits (unpacked magic).length s = t at *
  have hfit : (BitVec.ofNat 32 (n % 256)).toNat < 2 ^ 8 := by
    rw [BitVec.toNat_ofNat]
    omega
  obtain ⟨hnum, hrest⟩ := reaches_afterRead (f := .numEntries) hbusy' hfit hunread
  rw [afterRead, entryCount_length_mod hmin hmax] at hnum
  exact ⟨_, hmagic.trans hnum, hholds'.dropBits _, hrest, (dropBits_busy _ t).trans hbusy',
    (dropBits_fault _ t).trans hfault'⟩

/-- Settles O38: field after field the unread bits are taken, by induction on the magic and on the entries, and each
entry is new to the table. -/
theorem readHeaderRunReadsHeader : Obligations.ReadHeaderRunReadsHeader := by
  intro s es count bs more rest hbusy hseq hprogress hmin hmax hfit hdistinct hbits hmore hin
  have hstart : Reaches s (startRead (.magic []) (clearDtab (bitReaderReset s))) :=
    .of_step (engineStep_readHeader hbusy hseq)
  have hempty : HoldsEntries [] (clearDtab (bitReaderReset s)) := ⟨rfl, congrArg BitVec.toNat hprogress, nofun⟩
  have hunread : Unread (headerBits es count ++ more) rest (clearDtab (bitReaderReset s)) := ⟨bs, hin, hbits.symm⟩
  simp only [headerBits, List.append_assoc] at hunread
  obtain ⟨t, hfirst, hholds, hunread, hbusy', hfault⟩ :=
    reaches_firstEntry (s := clearDtab (bitReaderReset s)) hbusy hempty hmin hmax hunread
  obtain ⟨x, todo, hes⟩ := List.exists_cons_of_length_pos hmin
  obtain ⟨u, htable, hholds', hunread', hbusy'', hfault'⟩ :=
    reaches_payload hmax hfit hdistinct (done := []) hes.symm hbusy' hholds (hes ▸ hunread)
  obtain ⟨hpayload, hrest⟩ := reaches_afterRead (f := .payload) hbusy'' count.isLt hunread'
  have hholds'' := hholds'.dropBits (readWidth .payload)
  have hfault'' := dropBits_fault (readWidth .payload) u
  generalize dropBits (readWidth .payload) u = v at *
  obtain ⟨hdnum, hcount, hentry⟩ := hholds''
  obtain ⟨hin', hleft⟩ := hrest.of_length_lt hmore
  obtain ⟨n, hrun⟩ := hstart.trans (hfirst.trans (htable.trans hpayload))
  exact ⟨n, _, hrun, rfl, rfl, hdnum, rfl, hcount, hentry, hin', hleft, hfault''.trans (hfault'.trans hfault)⟩

end Sys2Proof.Machine

/-! PROOFS. The control of the engine (spec/40_control.md R110 to R116): which words it takes, what CLEAR does, what
the host may write meanwhile (R122 to R131), and how the fault state is left (spec/60_exceptions.md R238, R239). -/

namespace Sys2Proof.Machine

open Sys2Proof

/-! ## Acceptance -/

theorem ignores_eq_false {s : State} {i : Instr} (hbusy : s.busy = false) (hfault : s.fault = false ∨ i = .clear) :
    ignores (encode i) s = false := by
  obtain hf | rfl := hfault
  · simp [ignores, hbusy, hf]
  · simp [ignores, hbusy]

theorem offer_of_ignores {s : State} {i : Instr} (h : ignores (encode i) s = true) : offer i s = ignoreWord s := by
  rw [offer, if_pos h]

theorem offer_of_phaseOk {s : State} {i : Instr} (htaken : ignores (encode i) s = false)
    (hphase : phaseOk i s.phase = true) : offer i s = goto (startOf i) (acceptWord (encode i) s) := by
  rw [offer, if_neg (htaken ▸ Bool.false_ne_true), if_pos hphase]

theorem offer_of_not_phaseOk {s : State} {i : Instr} (htaken : ignores (encode i) s = false)
    (hphase : phaseOk i s.phase = false) :
    offer i s = raiseFault .sequence (sequenceInfo (encode i) s.phase) (acceptWord (encode i) s) := by
  rw [offer, if_neg (htaken ▸ Bool.false_ne_true), if_neg (hphase ▸ Bool.false_ne_true)]

/-- The phase table of R112, read by the commands it admits. -/
theorem phaseOk_iff (i : Instr) (p : Phase) : phaseOk i p = true ↔
    i = .clear ∨ i = .count ∨ i = .readHeader ∨ (i = .build ∧ p = .counted) ∨ (i = .writeHeader ∧ p = .built) ∨
      (i = .encode ∧ p = .headerWritten) ∨ (i = .decode ∧ p = .headerRead) := by
  cases i <;> simp [phaseOk]

/-- The phase table of R112, read by the commands it refuses. -/
theorem phaseOk_eq_false_iff (i : Instr) (p : Phase) : phaseOk i p = false ↔
    (i = .build ∧ p ≠ .counted) ∨ (i = .writeHeader ∧ p ≠ .built) ∨ (i = .encode ∧ p ≠ .headerWritten) ∨
      (i = .decode ∧ p ≠ .headerRead) := by
  cases i <;> simp [phaseOk]

/-- FAULT_INFO of SEQUENCE as a number (R231): an opcode is below 256. -/
theorem sequenceInfo_encode (i : Instr) (p : Phase) :
    sequenceInfo (encode i) p = BitVec.ofNat 32 ((phaseBits p).toNat * 256 + (encode i).toNat) := by
  have hopcode := toNat_encode_bounds i
  have hphase := (phaseBits p).isLt
  apply BitVec.eq_of_toNat_eq
  rw [sequenceInfo, BitVec.toNat_setWidth, toNat_append_eq, opcode, BitVec.toNat_setWidth, BitVec.toNat_ofNat]
  omega

/-- Settles O7: the engine does not ignore the word, and the phase table refuses the command. -/
theorem phaseCheckFaultsSequence : Obligations.PhaseCheckFaultsSequence := by
  intro s i hbusy hfault hrefused
  rw [exec_eq_offer i s (.inl hbusy), offer_of_not_phaseOk (ignores_eq_false hbusy (.inl hfault))
    ((phaseOk_eq_false_iff i s.phase).2 hrefused), sequenceInfo_encode]
  rfl

/-- Settles O8: the engine does not ignore the word, and the phase table admits the command. -/
theorem acceptanceStartsCommand : Obligations.AcceptanceStartsCommand := by
  intro s i hbusy hfault hadmitted
  refine ⟨?_, runningOf_startOf i⟩
  rw [exec_eq_offer i s (.inl hbusy),
    offer_of_phaseOk (ignores_eq_false hbusy hfault) ((phaseOk_iff i s.phase).2 hadmitted)]
  rfl

theorem writeCmd_of_ignores {s : State} {w : Word} (h : ignores w s = true) : writeCmd w s = .next (ignoreWord s) := by
  rw [writeCmd, if_pos h]

/-- Settles O6: in each case the word is one that ignores names. -/
theorem ignoredWordSetsOnlyCmdIgn : Obligations.IgnoredWordSetsOnlyCmdIgn := by
  refine ⟨fun s w rest hignored hprog => ?_, fun s i hbusy hother => ?_, fun s i hbusy hfault hne => ?_⟩
  · rw [hostStep_wr hprog]
    exact writeCmd_of_ignores ((ignores_iff w { s with program := rest }).2 hignored)
  · rw [exec_eq_offer i s (.inr hother), offer_of_ignores ((ignores_iff _ s).2 (.inl hbusy))]
    rfl
  · rw [exec_eq_offer i s (.inl hbusy),
      offer_of_ignores ((ignores_iff _ s).2 (.inr ⟨hfault, hne ∘ encode_inj⟩))]
    rfl

/-! ## No command runs -/

theorem engineStep_idle {s : State} (hbusy : s.busy = false) : engineStep s = .next s := by
  simp [engineStep, hbusy]

theorem engineRun_idle {s : State} (hbusy : s.busy = false) (n : Nat) : engineRun n s = .next s := by
  induction n with
  | zero => rfl
  | succ n ih => rw [engineRun_succ (engineStep_idle hbusy), ih]

/-- Settles O9, by induction on the number of engine events. -/
theorem engineIdleWhileNotBusy : Obligations.EngineIdleWhileNotBusy := by
  refine fun s hbusy => ⟨engineStep_idle hbusy, engineRun_idle hbusy, fun hprog => ?_⟩
  exact step_of_neither (by simp [hostReady, hprog]) (by simp [engineReady, hbusy])

/-! ## CLEAR -/

theorem runningOf_eq_clear_iff (q : Seq) : runningOf q = some .clear ↔ q = .clear := by
  cases q <;> simp [runningOf]

/-- CLEAR while it does not run: its word is ignored or accepted, and no PHASE refuses it (R110, R112). -/
theorem exec_clear_offered {s t : State} (hother : ¬ (s.busy = true ∧ s.seq = .clear)) (h : exec .clear s = .next t) :
    t = { s with cmdWord := t.cmdWord, cmdIgn := t.cmdIgn, progress := t.progress, busy := t.busy, seq := t.seq } ∧
      WordKeptOr .clear s t ∧ IgnKept .clear s t ∧
      (t.progress = s.progress ∨ (t.progress = 0#32 ∧ s.busy = false)) := by
  cases hbusy : s.busy with
  | false =>
    rw [exec_eq_offer _ s (.inl hbusy), offer_of_phaseOk (ignores_eq_false hbusy (.inr rfl)) rfl] at h
    cases h
    exact ⟨rfl, .inr ⟨rfl, hbusy⟩, fun hrun => absurd (hbusy.symm.trans hrun) Bool.false_ne_true, .inr ⟨rfl, rfl⟩⟩
  | true =>
    have hseq : runningOf s.seq ≠ some .clear := fun hrun => hother ⟨hbusy, (runningOf_eq_clear_iff _).1 hrun⟩
    rw [exec_eq_offer _ s (.inr hseq), offer_of_ignores ((ignores_iff _ s).2 (.inl hbusy))] at h
    cases h
    exact ⟨rfl, .inl rfl, fun _ hrun => absurd hrun hseq, .inl rfl⟩

/-- Settles O10: a running CLEAR has one event. -/
theorem clearEmptiesAndLeavesFault : Obligations.ClearEmptiesAndLeavesFault :=
  fun _ hbusy hseq => exec_clear_running hbusy hseq

/-- Settles O11: CLEAR is at its one event (O10), or its word is offered. -/
theorem clearFrame : Obligations.ClearFrame := by
  intro s t h
  by_cases hrun : s.busy = true ∧ s.seq = .clear
  · obtain ⟨hbusy, hseq⟩ := hrun
    have hfaultPending : (s.intStatus ||| 1#2).getLsbD 1 = s.intStatus.getLsbD 1 := by simp
    rw [clearEmptiesAndLeavesFault s hbusy hseq] at h
    cases h
    exact ⟨⟨rfl, rfl, rfl, rfl, rfl, rfl, rfl, rfl⟩, rfl, rfl, ⟨rfl, rfl, rfl⟩, ⟨rfl, rfl⟩, hfaultPending,
      .inr ⟨rfl, hbusy, rfl⟩, .inr ⟨rfl, hbusy, rfl⟩, .inl rfl, fun _ _ => rfl, .inl rfl,
      .inr ⟨hbusy, hseq, rfl, rfl⟩⟩
  · obtain ⟨ht, hword, hign, hprogress⟩ := exec_clear_offered hrun h
    rw [ht]
    exact ⟨⟨rfl, rfl, rfl, rfl, rfl, rfl, rfl, rfl⟩, rfl, rfl, ⟨rfl, rfl, rfl⟩, ⟨rfl, rfl⟩, rfl, .inl rfl, .inl rfl,
      hword, hign, hprogress,
      .inl ⟨rfl, rfl, rfl, ⟨rfl, rfl⟩, ⟨rfl, rfl, rfl⟩, ⟨rfl, rfl⟩, ⟨rfl, rfl⟩, ⟨rfl, rfl⟩, rfl⟩⟩

/-! ## Tokens in and bytes out -/

theorem inPop_of_cons {s : State} {x : Token} {rest : List Token} (h : s.inFifo = x :: rest) :
    inPop s = some (x, { s with inFifo := rest }) := by
  rw [inPop, h]

theorem outRoom_of_full {s : State} (h : s.params.outDepth.toNat ≤ s.outFifo.length) : ¬ outRoom s = true :=
  (outRoom_iff s).not.2 (Nat.not_lt.2 h)

/-- Settles O13: each point of COUNT is one event, and the InPop goes by the oldest token. -/
theorem countTakesTokens : Obligations.CountTakesTokens := by
  intro s hbusy
  refine ⟨exec_count_running hbusy, fun hseq hin => ?_, fun b rest hseq hin => ?_, fun rest hseq hin => ?_,
    exec_count_running hbusy⟩
  · rw [exec_count_running hbusy hseq, countEvent, inPop_none.2 hin]
  · rw [exec_count_running hbusy hseq, countEvent, inPop_of_cons hin]
    rfl
  · rw [exec_count_running hbusy hseq, countEvent, inPop_of_cons hin]
    rfl

/-- The flushed byte as a number: the held bits, then zero bits (R144). -/
theorem flushByte_eq (buf : Byte) (cnt : BitVec 3) :
    flushByte buf cnt = BitVec.ofNat 8 (buf.toNat * 2 ^ (8 - cnt.toNat)) := by
  apply BitVec.eq_of_toNat_eq
  rw [flushByte, BitVec.toNat_shiftLeft, Nat.shiftLeft_eq, BitVec.toNat_ofNat]

/-- Settles O30: the InPop goes by the oldest token, the flush by the bits held and the room. -/
theorem encodeTakesAndFlushes : Obligations.EncodeTakesAndFlushes := by
  intro s hbusy
  refine ⟨fun hseq hin => ?_, fun b rest hseq hin => ?_, fun rest hseq hin => ?_,
    fun v => exec_encode_running hbusy, fun hseq hheld hroom => ?_, fun hseq hheld hfull => ?_, fun hseq hheld => ?_⟩
  · rw [exec_encode_running hbusy hseq, encodeEvent, inPop_none.2 hin]
  · rw [exec_encode_running hbusy hseq, encodeEvent, inPop_of_cons hin]
    rfl
  · rw [exec_encode_running hbusy hseq, encodeEvent, inPop_of_cons hin]
    rfl
  · rw [exec_encode_running hbusy hseq, encodeEvent, encodeFlush, if_neg hheld, if_pos ((outRoom_iff s).2 hroom),
      ← flushByte_eq]
    rfl
  · rw [exec_encode_running hbusy hseq, encodeEvent, encodeFlush, if_neg hheld, if_neg (outRoom_of_full hfull)]
  · rw [exec_encode_running hbusy hseq, encodeEvent, encodeFlush, if_pos hheld]
    rfl

/-- Settles O41: the OutPush goes by the room, the loop by PROGRESS and PAYLOAD_COUNT. -/
theorem decodePushesAndEnds : Obligations.DecodePushesAndEnds := by
  intro s hbusy
  refine ⟨fun b hseq hroom => ?_, fun b hseq hfull => ?_, exec_decode_running hbusy, fun hseq hmore => ?_,
    fun hseq hend => ?_⟩
  · rw [exec_decode_running hbusy hseq, decodeEvent, if_pos ((outRoom_iff s).2 hroom)]
    rfl
  · rw [exec_decode_running hbusy hseq, decodeEvent, if_neg (outRoom_of_full hfull)]
  · rw [exec_decode_running hbusy hseq, decodeEvent, decodeNext, if_pos (BitVec.lt_def.2 hmore)]
    rfl
  · rw [exec_decode_running hbusy hseq, decodeEvent, decodeNext, if_neg (BitVec.not_lt.2 (BitVec.le_def.2 hend))]
    rfl

/-! ## The host's registers -/

/-- Settles O48: the register's word is VALID and the oldest byte, or 0. -/
theorem outDataRead : Obligations.OutDataRead := by
  intro s rest hprog
  refine ⟨fun b bs hout => ?_, fun hout => ?_⟩
  · have hword : regValue .outData s = BitVec.ofNat 32 (256 + b.toNat) := by
      have hnum : (outDataWord s).toNat = 256 + b.toNat := toNat_outDataWord hout
      rw [regValue, ← hnum, BitVec.ofNat_toNat, BitVec.setWidth_eq]
    rw [hostStep_rd hprog, readReg_outData, hword, hout]
    rfl
  · have hword : regValue .outData s = 0#32 := outDataWord_empty hout
    have htail : s.outFifo.tail = s.outFifo := by rw [hout]; rfl
    rw [hostStep_rd hprog, readReg_outData, hword, htail]
    rfl

/-- Settles O50: each write is one update of one field. -/
theorem interruptAndIndexRegisters : Obligations.InterruptAndIndexRegisters := by
  refine fun s rest v => ⟨fun hprog => ⟨s.intStatus &&& ~~~(v.setWidth 2), hostStep_wr hprog, fun k hk => ?_⟩,
    fun hprog => ?_, fun hprog => ?_, ?_⟩
  · simp [hk]
  · rw [hostStep_wr hprog, BitVec.ofNat_toNat]
    rfl
  · rw [hostStep_wr hprog, BitVec.ofNat_toNat]
    rfl
  · simp [irq]

theorem pushToken_of_room {s : State} (h : s.inFifo.length < s.params.inDepth.toNat) (x : Token) :
    pushToken x s = { s with inFifo := s.inFifo ++ [x] } := by
  rw [pushToken, if_pos (by simpa [inRoom] using h)]

theorem pushToken_of_full {s : State} (h : s.params.inDepth.toNat ≤ s.inFifo.length) (x : Token) :
    pushToken x s = { s with inOvf := true } := by
  rw [pushToken, if_neg (by simpa [inRoom] using h)]

/-- IN_FLUSH, then PUSH_EOS: what a write of v to FIFO_CTRL does to the input FIFO (R33, R123, R124). -/
def inputAfterCtrl (v : Word) (s : State) : State :=
  let flushed := if v.getLsbD 1 then inFlush s else s
  if v.getLsbD 0 then pushToken .eos flushed else flushed

/-- OUT_FLUSH comes last (R33, R125). -/
theorem writeFifoCtrl_eq (v : Word) (s : State) : writeFifoCtrl v s =
    { inputAfterCtrl v s with outFifo := if v.getLsbD 2 then [] else (inputAfterCtrl v s).outFifo } := by
  unfold writeFifoCtrl
  cases v.getLsbD 2 <;> rfl

theorem inputAfterCtrl_of_flush {v : Word} {s : State} (hflush : v.getLsbD 1 = true)
    (hdepth : 0 < s.params.inDepth.toNat) : inputAfterCtrl v s =
      { s with inFifo := if v.getLsbD 0 then [.eos] else [], inOvf := false } := by
  have hroom : (inFlush s).inFifo.length < (inFlush s).params.inDepth.toNat := hdepth
  rw [inputAfterCtrl, hflush, if_pos rfl, pushToken_of_room hroom]
  cases v.getLsbD 0 <;> rfl

theorem inputAfterCtrl_of_push {v : Word} {s : State} (hflush : v.getLsbD 1 = false) (hpush : v.getLsbD 0 = true) :
    inputAfterCtrl v s = pushToken .eos s := by
  rw [inputAfterCtrl, hflush, hpush]
  rfl

theorem inputAfterCtrl_of_neither {v : Word} {s : State} (hflush : v.getLsbD 1 = false)
    (hpush : v.getLsbD 0 = false) : inputAfterCtrl v s = s := by
  rw [inputAfterCtrl, hflush, hpush]
  rfl

theorem pushToken_frame (x : Token) (s : State) :
    pushToken x s = { s with inFifo := (pushToken x s).inFifo, inOvf := (pushToken x s).inOvf } := by
  obtain ⟨-, h⟩ | ⟨-, h⟩ := pushToken_cases x s <;> rw [h]

theorem inputAfterCtrl_frame (v : Word) (s : State) : inputAfterCtrl v s =
    { s with inFifo := (inputAfterCtrl v s).inFifo, inOvf := (inputAfterCtrl v s).inOvf } := by
  unfold inputAfterCtrl
  cases v.getLsbD 0 <;> cases v.getLsbD 1
  · rfl
  · rfl
  · exact pushToken_frame _ s
  · exact pushToken_frame _ (inFlush s)

theorem writeFifoCtrl_frame (v : Word) (s : State) : writeFifoCtrl v s =
    { s with
      inFifo := (writeFifoCtrl v s).inFifo
      inOvf := (writeFifoCtrl v s).inOvf
      outFifo := (writeFifoCtrl v s).outFifo } := by
  rw [writeFifoCtrl_eq, inputAfterCtrl_frame]

theorem writeFifoCtrl_outFifo (v : Word) (s : State) :
    (writeFifoCtrl v s).outFifo = if v.getLsbD 2 then [] else s.outFifo := by
  rw [writeFifoCtrl_eq, inputAfterCtrl_frame]

/-- Settles O49: a push goes by the room; a write of FIFO_CTRL goes by its bits, and IN_FLUSH makes room. -/
theorem streamRegisterWrites : Obligations.StreamRegisterWrites := by
  refine fun s rest v => ⟨fun hprog hroom => ?_, fun hprog hfull => ?_, fun hprog hdepth => ?_⟩
  · rw [hostStep_wr hprog, BitVec.ofNat_toNat]
    exact congrArg Host.Outcome.next (pushToken_of_room (s := { s with program := rest }) hroom _)
  · rw [hostStep_wr hprog]
    exact congrArg Host.Outcome.next (pushToken_of_full (s := { s with program := rest }) hfull _)
  · refine ⟨writeFifoCtrl v { s with program := rest }, hostStep_wr hprog, fun hflush => ?_, fun hflush hpush => ?_,
      fun hflush hpush hroom => ?_, fun hflush hpush hfull => ?_, writeFifoCtrl_outFifo v _,
      writeFifoCtrl_frame v _⟩ <;> rw [writeFifoCtrl_eq]
    · rw [inputAfterCtrl_of_flush (s := { s with program := rest }) hflush hdepth]
      exact ⟨rfl, rfl⟩
    · rw [inputAfterCtrl_of_neither hflush hpush]
      exact ⟨rfl, rfl⟩
    · rw [inputAfterCtrl_of_push hflush hpush, pushToken_of_room (s := { s with program := rest }) hroom]
      exact ⟨rfl, rfl⟩
    · rw [inputAfterCtrl_of_push hflush hpush, pushToken_of_full (s := { s with program := rest }) hfull]
      exact ⟨rfl, rfl⟩

/-- Settles O55: a command word is ignored while BUSY = 1, and no other register but CTRL, IN_DATA and FIFO_CTRL
reaches the engine. -/
theorem runningCommandUndisturbed : Obligations.RunningCommandUndisturbed := by
  intro s r v hbusy hctrl hin hfifo
  cases r with
  | ctrl | inData | fifoCtrl => contradiction
  | cmd => exact ⟨ignoreWord s, writeCmd_of_ignores ((ignores_iff v s).2 (.inl hbusy)), rfl⟩
  | _ => exact ⟨_, rfl, rfl⟩

/-! ## The fault state -/

/-- FAULT, FAULT_CODE, FAULT_INFO and PHASE are unchanged (R236, R239). -/
def FaultKept (s t : State) : Prop :=
  t.fault = s.fault ∧ t.faultCode = s.faultCode ∧ t.faultInfo = s.faultInfo ∧ t.phase = s.phase

/-- t is the state after a reset of the HUFF of s: all but the host and the model's choices is as at power-on
(R260, R261). -/
def IsReset (s t : State) : Prop :=
  t = { State.powerOn s.params with program := t.program, reads := t.reads, turns := t.turns, draws := t.draws }

theorem FaultKept.refl (s : State) : FaultKept s s := ⟨rfl, rfl, rfl, rfl⟩

theorem faultKept_pushToken (x : Token) (s : State) : FaultKept s (pushToken x s) := by
  rw [pushToken_frame]
  exact .refl s

theorem faultKept_writeFifoCtrl (v : Word) (s : State) : FaultKept s (writeFifoCtrl v s) := by
  rw [writeFifoCtrl_frame]
  exact .refl s

theorem faultKept_readOffset (off : Nat) (s : State) : FaultKept s (readOffset off s).2 := by
  unfold readOffset readReg
  split
  · split
    · exact .refl s
    · split <;> exact .refl s
  · exact .refl s

/-- In the fault state a word is ignored, or it is CLEAR's and starts CLEAR, which still keeps the fault (R110). -/
theorem writeCmd_faulted {s t : State} {w : Word} (hfault : s.fault = true) (h : writeCmd w s = .next t) :
    FaultKept s t := by
  cases hign : ignores w s with
  | true =>
    rw [writeCmd_of_ignores hign] at h
    cases h
    exact .refl s
  | false =>
    obtain ⟨hbusy, hw⟩ : s.busy = false ∧ w = encode .clear := by simpa [ignores, hfault] using hign
    rw [hw, writeCmd_eq_exec hbusy (.inr rfl) (decode_encode .clear)] at h
    obtain ⟨ht, -⟩ := exec_clear_offered (by simp [hbusy]) h
    rw [ht]
    exact .refl s

theorem writeReg_faulted {s t : State} {r : Reg} {v : Word} (hfault : s.fault = true)
    (h : writeReg r v s = .next t) : FaultKept s t ∨ IsReset s t := by
  cases r with
  | ctrl =>
    simp only [writeReg] at h
    split at h <;> cases h
    · exact .inr rfl
    · exact .inl (.refl s)
  | cmd => exact .inl (writeCmd_faulted hfault h)
  | inData =>
    cases h
    exact .inl (faultKept_pushToken _ s)
  | fifoCtrl =>
    cases h
    exact .inl (faultKept_writeFifoCtrl v s)
  | _ =>
    cases h
    exact .inl (.refl s)

theorem writeOffset_faulted {s t : State} {off : Nat} {v : Word} (hfault : s.fault = true)
    (h : writeOffset off v s = .next t) : FaultKept s t ∨ IsReset s t := by
  unfold writeOffset at h
  split at h
  · exact writeReg_faulted hfault h
  · cases h
    exact .inl (.refl s)

theorem performAccess_faulted {s t : State} {a : BusAccess} {line : HostLine} {rest : List HostLine}
    (hfault : s.fault = true) (h : performAccess a line rest s = .next t) : FaultKept s t ∨ IsReset s t := by
  unfold performAccess at h
  split at h
  · cases h
  · split at h
    · exact writeOffset_faulted (s := { s with program := afterWrite line ++ rest }) hfault h
    · cases h
      exact .inl (faultKept_readOffset _ s)

/-- In the fault state an event of the host keeps the fault or resets the HUFF (R239, R261). -/
theorem hostStep_faulted {s t : State} (hfault : s.fault = true) (h : hostStep s = .next t) :
    FaultKept s t ∨ IsReset s t := by
  unfold hostStep at h
  split at h
  · cases h
    exact .inl (.refl s)
  · cases h
    exact .inr rfl
  · split at h
    · cases h
      exact .inl (.refl s)
    · exact performAccess_faulted hfault h

/-- In the fault state the engine rests, or CLEAR runs and ends (R239). -/
theorem engineStep_faulted {s t : State} (hclear : s.busy = true → s.seq = .clear) (h : engineStep s = .next t) :
    FaultKept s t ∨ (s.busy = true ∧ s.seq = .clear ∧ t = clearEvent s) := by
  cases hbusy : s.busy with
  | false =>
    rw [engineStep_idle hbusy] at h
    cases h
    exact .inl (.refl s)
  | true =>
    have hseq := hclear hbusy
    rw [engineStep_running hbusy ((runningOf_eq_clear_iff _).2 hseq), exec_clear_running hbusy hseq] at h
    cases h
    exact .inr ⟨rfl, hseq, rfl⟩

/-- Settles O59: an event of the host keeps the fault or resets the HUFF, and the engine's only event ends CLEAR. -/
theorem faultLeftOnlyByClearOrReset : Obligations.FaultLeftOnlyByClearOrReset := by
  intro s t hcontrol hfault h
  have hkept : FaultKept s t →
      t.fault = true ∧ t.faultCode = s.faultCode ∧ t.faultInfo = s.faultInfo ∧ t.phase = s.phase :=
    And.imp_left fun heq => heq.trans hfault
  obtain ⟨-, -, heq⟩ | ⟨-, ts, n, heq⟩ | ⟨-, ts, n, heq⟩ := step_cases s <;> rw [heq] at h
  · cases h
    exact .inl (hkept (.refl s))
  · obtain hsame | hreset := hostStep_faulted (s := { s with turns := ts, draws := n }) hfault h
    · exact .inl (hkept hsame)
    · exact .inr (.inr hreset)
  · obtain hsame | ⟨hbusy, hseq, rfl⟩ :=
      engineStep_faulted (s := { s with turns := ts, draws := n }) (hcontrol.only_clear hfault) h
    · exact .inl (hkept hsame)
    · exact .inr (.inl ⟨hbusy, hseq, rfl, rfl, rfl⟩)

end Sys2Proof.Machine

/-! PROOFS. The bit adapters (spec/41_bitio.md R140 to R149): what a sequence of BitWrites pushes and a sequence of
BitReads takes, the round trip of the two, and one bit step of each in the commands that take it. -/

namespace Sys2Proof.Machine

open Sys2Proof

/-! ## A sequence of BitWrites -/

/-- The bits a sequence of BitWrites writes, in order (R63, R142). -/
def writtenBits (xs : List (Word × Nat)) : List Bool := xs.flatMap (fun x => wordBits x.1 x.2)

theorem length_writtenBits (xs : List (Word × Nat)) : (writtenBits xs).length = (xs.map (fun x => x.2)).sum := by
  simp only [writtenBits, List.length_flatMap, length_wordBits]

/-- The bits held before a BitWrite and the bits it writes are the bytes it pushes and the bits held after it (R142). -/
theorem heldBits_bitWrite (v : Word) (n : Nat) (buf : Byte) (cnt : BitVec 3) :
    heldBits buf cnt ++ wordBits v n =
      unpacked (bitWrite v n buf cnt).1 ++ heldBits (bitWrite v n buf cnt).2.1 (bitWrite v n buf cnt).2.2 := by
  induction n generalizing buf cnt with
  | zero => exact List.append_nil _
  | succ n ih =>
    rw [wordBits, List.append_cons, heldBits_writerStep, List.append_assoc, ih, bitWrite, unpacked_append,
      List.append_assoc]

/-- A sequence of BitWrites loses no bit and adds none (R142). -/
theorem heldBits_writeAll (xs : List (Word × Nat)) (buf : Byte) (cnt : BitVec 3) :
    heldBits buf cnt ++ writtenBits xs =
      unpacked (writeAll xs buf cnt).1 ++ heldBits (writeAll xs buf cnt).2.1 (writeAll xs buf cnt).2.2 := by
  induction xs generalizing buf cnt with
  | nil => exact List.append_nil _
  | cons x xs ih =>
    have hcons : writtenBits (x :: xs) = wordBits x.1 x.2 ++ writtenBits xs := List.flatMap_cons
    rw [hcons, ← List.append_assoc, heldBits_bitWrite, List.append_assoc, ih, writeAll, unpacked_append,
      List.append_assoc]

/-- From BW_CNT = 0, the bits written are the bytes pushed and the bits held, whatever BW_BUF holds (R142). -/
theorem writtenBits_eq (xs : List (Word × Nat)) (buf : Byte) :
    writtenBits xs =
      unpacked (writeAll xs buf 0#3).1 ++ heldBits (writeAll xs buf 0#3).2.1 (writeAll xs buf 0#3).2.2 :=
  heldBits_writeAll xs buf 0#3

/-- The bytes of a flushed sequence of BitWrites hold its bits and then zero bits (R142, R144). -/
theorem unpacked_writeAndFlush (xs : List (Word × Nat)) :
    ∃ k, unpacked (writeAndFlush xs) = writtenBits xs ++ List.replicate k false := by
  rw [writtenBits_eq xs 0#8, writeAndFlush]
  by_cases hempty : (writeAll xs 0#8 0#3).2.2 = 0#3
  · refine ⟨0, ?_⟩
    rw [if_pos hempty, hempty]
    simp [heldBits, wordBits]
  · refine ⟨8 - (writeAll xs 0#8 0#3).2.2.toNat, ?_⟩
    rw [if_neg hempty, unpacked_append, unpacked_cons, byteBits_flushByte, unpacked_nil, List.append_nil,
      List.append_assoc]

/-! ## A sequence of BitReads -/

/-- A reader that began at the bytes `start` holds fewer than 8 unread bits, has taken bytes from the front alone, and
has the bits l still to read (R145). -/
structure ReaderAt (start : List Byte) (l : List Bool) (buf : Byte) (cnt : BitVec 4) (bs : List Byte) : Prop where
  bits : unreadBits buf cnt ++ unpacked bs = l
  few : cnt.toNat < 8
  left : bs <:+ start

theorem readerAt_start (bs : List Byte) (buf : Byte) : ReaderAt bs (unpacked bs) buf 0#4 bs :=
  ⟨rfl, by decide, List.suffix_refl bs⟩

theorem byteBits_eq_cons (b : Byte) : byteBits b = readerBit b 8#4 :: unreadBits b 7#4 :=
  unreadBits_of_ne_zero b (cnt := 8#4) (by decide)

section

variable {start bs : List Byte} {b : Bool} {l : List Bool} {buf : Byte} {cnt : BitVec 4}

/-- With a bit held, the next unread bit is BR_BUF[BR_CNT - 1] (R145). -/
theorem ReaderAt.held (h : ReaderAt start (b :: l) buf cnt bs) (hheld : cnt ≠ 0#4) :
    b = readerBit buf cnt ∧ ReaderAt start l buf (cnt - 1#4) bs := by
  obtain ⟨hbits, hfew, hleft⟩ := h
  rw [unreadBits_of_ne_zero buf hheld, List.cons_append, List.cons.injEq] at hbits
  obtain ⟨rfl, hl⟩ := hbits
  exact ⟨rfl, hl, by bv_omega, hleft⟩

/-- With no bit held, the next unread bit is the top bit of the next byte (R145). -/
theorem ReaderAt.popped (h : ReaderAt start (b :: l) buf 0#4 bs) :
    ∃ c cs, bs = c :: cs ∧ b = readerBit c 8#4 ∧ ReaderAt start l c 7#4 cs := by
  obtain ⟨hbits, -, hleft⟩ := h
  rw [unreadBits_zero, List.nil_append] at hbits
  cases bs with
  | nil => cases hbits
  | cons c cs =>
    rw [unpacked_cons, byteBits_eq_cons, List.cons_append, List.cons.injEq] at hbits
    obtain ⟨rfl, hl⟩ := hbits
    exact ⟨c, cs, rfl, rfl, hl, by decide, (List.suffix_cons c cs).trans hleft⟩

end

theorem bitRead_of_held {cnt : BitVec 4} (hheld : cnt ≠ 0#4) (n : Nat) (acc : Word) (buf : Byte) (bs : List Byte) :
    bitRead (n + 1) acc buf cnt bs = bitRead n (acc.shiftConcat (readerBit buf cnt)) buf (cnt - 1#4) bs := by
  rw [bitRead.eq_def]
  exact if_neg hheld

theorem bitRead_of_byte (n : Nat) (acc : Word) (buf b : Byte) (bs : List Byte) :
    bitRead (n + 1) acc buf 0#4 (b :: bs) = bitRead n (acc.shiftConcat (readerBit b 8#4)) b 7#4 bs := by
  rw [bitRead.eq_def]
  exact if_pos rfl

/-- A BitRead of the width of x shifts the unread bits x into its accumulator and leaves the bits after them (R145). -/
theorem bitRead_of_readerAt {start bs : List Byte} {x l : List Bool} {buf : Byte} {cnt : BitVec 4} (acc : Word)
    (h : ReaderAt start (x ++ l) buf cnt bs) :
    ∃ buf' cnt' bs', bitRead x.length acc buf cnt bs = some (x.foldl BitVec.shiftConcat acc, buf', cnt', bs') ∧
      ReaderAt start l buf' cnt' bs' := by
  induction x generalizing acc buf cnt bs with
  | nil => exact ⟨buf, cnt, bs, rfl, h⟩
  | cons b x ih =>
    rw [List.length_cons, List.foldl_cons]
    by_cases hcnt : cnt = 0#4
    · subst hcnt
      obtain ⟨c, cs, rfl, rfl, hrest⟩ := h.popped
      rw [bitRead_of_byte]
      exact ih _ hrest
    · obtain ⟨rfl, hrest⟩ := h.held hcnt
      rw [bitRead_of_held hcnt]
      exact ih _ hrest

/-- BitReads of the widths of the pieces ps of the unread bits read each piece as a number and leave the bits after
them (R145). -/
theorem readAll_of_readerAt {start bs : List Byte} {ps : List (List Bool)} {l : List Bool} {buf : Byte}
    {cnt : BitVec 4} (h : ReaderAt start (ps.flatten ++ l) buf cnt bs) :
    ∃ buf' cnt' bs', readAll (ps.map List.length) buf cnt bs =
        some (ps.map (fun p => p.foldl BitVec.shiftConcat 0#32), buf', cnt', bs') ∧
      ReaderAt start l buf' cnt' bs' := by
  induction ps generalizing buf cnt bs with
  | nil => exact ⟨buf, cnt, bs, rfl, h⟩
  | cons p ps ih =>
    rw [List.flatten_cons, List.append_assoc] at h
    obtain ⟨buf1, cnt1, bs1, hread, hmid⟩ := bitRead_of_readerAt 0#32 h
    obtain ⟨buf2, cnt2, bs2, hreads, hend⟩ := ih hmid
    refine ⟨buf2, cnt2, bs2, ?_, hend⟩
    rw [List.map_cons, readAll, hread]
    simp only [hreads, List.map_cons]

/-! ## The laws of the two adapters -/

/-- The low n bits of v, shifted into an empty register, are v mod 2^n (R63, R145). -/
theorem foldl_shiftConcat_wordBits_mod (v : Word) (n : Nat) :
    (wordBits v n).foldl BitVec.shiftConcat 0#32 = BitVec.ofNat 32 (v.toNat % 2 ^ n) := by
  have hle : v.toNat % 2 ^ n < 2 ^ 32 := (Nat.mod_le _ _).trans_lt v.isLt
  have hlow : wordBits v n = wordBits (BitVec.ofNat 32 (v.toNat % 2 ^ n)) n := by
    apply List.ext_getElem (by rw [length_wordBits, length_wordBits])
    intro i hi _
    rw [length_wordBits] at hi
    rw [getElem_wordBits, getElem_wordBits, BitVec.getLsbD, BitVec.getLsbD, BitVec.toNat_ofNat, Nat.mod_eq_of_lt hle,
      Nat.testBit_mod_two_pow]
    simp [show n - 1 - i < n by omega]
  rw [hlow]
  apply foldl_shiftConcat_of_lt
  rw [BitVec.toNat_ofNat, Nat.mod_eq_of_lt hle]
  exact Nat.mod_lt _ (Nat.two_pow_pos n)

/-- Settles O44: the flushed bytes hold the bits written, and each BitRead takes the bits of the BitWrite at its place.
The bound on the widths is not needed. -/
theorem bitReadInvertsBitWrite : Obligations.BitReadInvertsBitWrite := by
  intro xs _
  obtain ⟨k, hbits⟩ := unpacked_writeAndFlush xs
  have hstart := readerAt_start (writeAndFlush xs) 0#8
  rw [hbits, writtenBits, List.flatMap_def] at hstart
  obtain ⟨buf, cnt, bs, hread, -⟩ := readAll_of_readerAt hstart
  refine ⟨(buf, cnt, bs), ?_⟩
  simpa only [List.map_map, Function.comp_def, length_wordBits, foldl_shiftConcat_wordBits_mod] using hread

/-- The bytes not yet taken and the bits held are as many as the bits still to read say (R148). -/
theorem ReaderAt.counts {start bs : List Byte} {l : List Bool} {buf : Byte} {cnt : BitVec 4}
    (h : ReaderAt start l buf cnt bs) :
    bs = start.drop (start.length - l.length / 8) ∧ cnt.toNat = l.length % 8 := by
  obtain ⟨hbits, hfew, hleft⟩ := h
  have hlen : cnt.toNat + 8 * bs.length = l.length := by
    rw [← hbits, List.length_append, length_unpacked, unreadBits, length_wordBits]
  refine ⟨?_, by omega⟩
  rw [show l.length / 8 = bs.length by omega]
  exact List.suffix_iff_eq_drop.1 hleft

/-- Reading is lazy (R148): B bits take ⌈B / 8⌉ bytes. -/
theorem readAll_counts {ns : List Nat} {bs : List Byte} (henough : ns.sum ≤ 8 * bs.length) (b0 : Byte) :
    ∃ vs buf cnt, readAll ns b0 0#4 bs = some (vs, buf, cnt, bs.drop ((ns.sum + 7) / 8)) ∧
      cnt.toNat = (8 - ns.sum % 8) % 8 := by
  have hsum : ns.sum = ((unpacked bs).take ns.sum).length := by
    rw [List.length_take, length_unpacked, Nat.min_eq_left henough]
  have hstart := readerAt_start bs b0
  rw [← List.take_append_drop ns.sum (unpacked bs), ← List.flatten_splitLengths _ ns hsum.ge] at hstart
  obtain ⟨buf, cnt, bs', hread, hend⟩ := readAll_of_readerAt hstart
  obtain ⟨hbytes, hcnt⟩ := hend.counts
  rw [List.length_drop, length_unpacked] at hbytes hcnt
  rw [List.map_splitLengths_length _ ns hsum.le, hbytes,
    show bs.length - (8 * bs.length - ns.sum) / 8 = (ns.sum + 7) / 8 by omega] at hread
  exact ⟨_, buf, cnt, hread, by omega⟩

/-- Writing is eager (R149): B bits push ⌊B / 8⌋ bytes. -/
theorem writeAll_counts (xs : List (Word × Nat)) (b0 : Byte) :
    (writeAll xs b0 0#3).1.length = (xs.map (fun x => x.2)).sum / 8 ∧
      (writeAll xs b0 0#3).2.2.toNat = (xs.map (fun x => x.2)).sum % 8 := by
  have hlen := congrArg List.length (writtenBits_eq xs b0)
  rw [length_writtenBits, List.length_append, length_unpacked, length_heldBits] at hlen
  have hheld := (writeAll xs b0 0#3).2.2.isLt
  omega

/-- Settles O45: the bits taken or pushed, counted in bytes. -/
theorem adapterCounts : Obligations.AdapterCounts :=
  ⟨fun _ _ b0 henough => readAll_counts henough b0, writeAll_counts⟩

/-! ## One bit step of BitWrite -/

/-- A bit put in below a register's bits, as a number (R142, R145). -/
theorem shiftConcat_eq_ofNat {w : Nat} (x : BitVec w) (b : Bool) :
    x.shiftConcat b = BitVec.ofNat w (2 * x.toNat + b.toNat) := by
  apply BitVec.eq_of_toNat_eq
  rw [BitVec.toNat_shiftConcat, BitVec.toNat_ofNat, Nat.shiftLeft_eq, Nat.pow_one, Nat.mul_comm]

theorem writeBit_of_open {s : State} (hopen : s.bwCnt ≠ 7#3) (b : Bool) :
    writeBit b s =
      { s with bwBuf := BitVec.ofNat 8 (2 * s.bwBuf.toNat + b.toNat), bwCnt := s.bwCnt + 1#3 } := by
  rw [writeBit, writerStep_open _ _ hopen, ← shiftConcat_eq_ofNat, Option.toList_none, List.append_nil]

theorem writeBit_of_full {s : State} (hfull : s.bwCnt = 7#3) (b : Bool) :
    writeBit b s =
      { s with
        outFifo := s.outFifo ++ [BitVec.ofNat 8 (2 * s.bwBuf.toNat + b.toNat)], bwBuf := 0#8, bwCnt := 0#3 } := by
  rw [writeBit, hfull, writerStep_full, ← shiftConcat_eq_ofNat]
  rfl

theorem writeBlocked_iff (s : State) :
    writeBlocked s = true ↔ s.bwCnt = 7#3 ∧ s.params.outDepth.toNat ≤ s.outFifo.length := by
  simp [writeBlocked, outRoom]

/-- Settles O25: in both commands the event is a bit step of the writer, unless it has to push into a full FIFO. -/
theorem bitWriteStep : Obligations.BitWriteStep := by
  intro s i v n q hbusy hpoint
  have hstep : exec i s = .next (if writeBlocked s then s else goto q (writeBit (v.getLsbD n) s)) := by
    obtain ⟨rfl, f, hseq, rfl, rfl⟩ | ⟨rfl, hseq, rfl⟩ := hpoint
    · exact exec_writeHeader_running hbusy hseq
    · exact exec_encode_running hbusy hseq
  simp only [hstep, writeBlocked_iff]
  refine ⟨fun hopen => ?_, fun hfull hroom => ?_, fun hfull hnoRoom => ?_⟩
  · rw [if_neg fun ⟨hfull, _⟩ => hopen hfull, writeBit_of_open hopen]
    rfl
  · rw [if_neg fun ⟨_, hnoRoom⟩ => Nat.not_lt.2 hnoRoom hroom, writeBit_of_full hfull]
    rfl
  · rw [if_pos ⟨hfull, hnoRoom⟩]

/-! ## One bit step of BitRead -/

theorem readBit_of_held {s : State} (hheld : s.brCnt ≠ 0#4) :
    readBit s = .bit (s.brBuf.getLsbD (s.brCnt.toNat - 1)) { s with brCnt := s.brCnt - 1#4 } :=
  if_neg hheld

theorem readBit_of_byte {s : State} {b : Byte} {rest : List Token} (hzero : s.brCnt = 0#4)
    (hin : s.inFifo = .byte b :: rest) :
    readBit s = .bit (b.getLsbD 7) { s with inFifo := rest, brBuf := b, brCnt := 7#4 } := by
  rw [readBit, if_pos hzero, inPop_of_cons hin]
  rfl

theorem readBit_of_eos {s : State} {rest : List Token} (hzero : s.brCnt = 0#4) (hin : s.inFifo = .eos :: rest) :
    readBit s = .eos { s with inFifo := rest } := by
  rw [readBit, if_pos hzero, inPop_of_cons hin]

theorem readBit_of_empty {s : State} (hzero : s.brCnt = 0#4) (hin : s.inFifo = []) : readBit s = .wait := by
  rw [readBit, if_pos hzero, inPop_none.2 hin]

/-- Settles O33: in both commands the event goes by the bits held and the oldest token. -/
theorem bitReadStep : Obligations.BitReadStep := by
  refine ⟨fun s f n a hbusy hseq => ?_, fun s hbusy hseq => ?_⟩
  · rw [exec_readHeader_running hbusy hseq, readEvent]
    refine ⟨fun hheld => ?_, fun b rest hzero hin => ?_, fun rest hzero hin => ?_, fun hzero hin => ?_⟩
    · rw [readBit_of_held hheld, ← shiftConcat_eq_ofNat]
      rfl
    · rw [readBit_of_byte hzero hin, ← shiftConcat_eq_ofNat]
      rfl
    · rw [readBit_of_eos hzero hin]
      rfl
    · rw [readBit_of_empty hzero hin]
  · rw [exec_decode_running hbusy hseq, decodeEvent]
    refine ⟨fun hheld => ?_, fun b rest hzero hin => ?_, fun rest hzero hin => ?_, fun hzero hin => ?_⟩
    · rw [readBit_of_held hheld, ← shiftConcat_eq_ofNat]
      rfl
    · rw [readBit_of_byte hzero hin, ← shiftConcat_eq_ofNat]
      rfl
    · rw [readBit_of_eos hzero hin]
      rfl
    · rw [readBit_of_empty hzero hin]

/-- Settles O34: in both commands the event is the fault of R145. -/
theorem underflowFaults : Obligations.UnderflowFaults := by
  rintro s i hbusy (⟨rfl, hseq⟩ | ⟨rfl, hseq⟩)
  · exact exec_readHeader_running hbusy hseq
  · exact exec_decode_running hbusy hseq

end Sys2Proof.Machine

/-! PROOFS. COUNT (spec/42_count.md R160 to R162): one counted byte, a whole COUNT, and what COUNT leaves unchanged.
The frame of an acceptance and of the three ends of an event stand first, for any command. -/

namespace Sys2Proof.Machine

open Sys2Proof

/-! ## The frame of a command's events -/

/-- t has the surroundings and the control state of s, but for BUSY, PROGRESS and the sequencer position, which an
event inside a command may change (R26, R27, R113). -/
def ControlKept (s t : State) : Prop :=
  t = { t with
    params := s.params, cmdWord := s.cmdWord, fault := s.fault, cmdIgn := s.cmdIgn, phase := s.phase,
    faultCode := s.faultCode, faultInfo := s.faultInfo, intEn := s.intEn, intStatus := s.intStatus,
    index := s.index, inOvf := s.inOvf, program := s.program, reads := s.reads, turns := s.turns, draws := s.draws }

section

variable {i : Instr} {p : Phase} {s t : State}

theorem ControlKept.sameOutside (h : ControlKept s t) : SameOutside s t := by
  rw [h]
  exact ⟨rfl, rfl, rfl, rfl, rfl, rfl, rfl, rfl⟩

/-- An event that neither completes nor faults. -/
theorem ControlKept.commandFrame (h : ControlKept s t) (hin : InKeptOrPopped s t) (hout : OutKeptOrPushed s t) :
    CommandFrame i p s t := by
  refine ⟨h.sameOutside, ?_, ?_, ?_, ?_, ?_, hin, hout⟩ <;> rw [h]
  exacts [.inl ⟨rfl, rfl, rfl⟩, .inl rfl, .inl rfl, fun _ _ => rfl, .inl rfl]

/-- An event that ends in complete(p) (R115). -/
theorem ControlKept.commandFrame_complete (h : ControlKept s t) (hbusy : s.busy = true) (hin : InKeptOrPopped s t)
    (hout : OutKeptOrPushed s t) : CommandFrame i p s (complete p t) := by
  refine ⟨?_, ?_, .inr ⟨rfl, hbusy, rfl⟩, ?_, ?_, ?_, hin, hout⟩ <;> rw [h]
  exacts [⟨rfl, rfl, rfl, rfl, rfl, rfl, rfl, rfl⟩, .inl ⟨rfl, rfl, rfl⟩, .inl rfl, fun _ _ => rfl,
    .inr (.inl ⟨rfl, hbusy, rfl⟩)]

/-- An event that ends in a fault (R113, R236). -/
theorem ControlKept.commandFrame_raiseFault (h : ControlKept s t) {code : FaultCode} (hcode : code ≠ .none)
    (info : Word) (hin : InKeptOrPopped s t) (hout : OutKeptOrPushed s t) :
    CommandFrame i p s (raiseFault code info t) := by
  refine ⟨?_, ?_, ?_, ?_, ?_, ?_, hin, hout⟩ <;> rw [h]
  exacts [⟨rfl, rfl, rfl, rfl, rfl, rfl, rfl, rfl⟩, .inr ⟨rfl, hcode, rfl, rfl⟩, .inl rfl, .inl rfl, fun _ _ => rfl,
    .inr (.inr ⟨rfl, rfl, rfl⟩)]

/-- An offered word changes the control state alone (R110). -/
theorem offer_frame (i : Instr) (s : State) : offer i s = { s with
    cmdWord := (offer i s).cmdWord, busy := (offer i s).busy, fault := (offer i s).fault,
    cmdIgn := (offer i s).cmdIgn, faultCode := (offer i s).faultCode, faultInfo := (offer i s).faultInfo,
    intStatus := (offer i s).intStatus, progress := (offer i s).progress, seq := (offer i s).seq } := by
  obtain ⟨-, heq⟩ | ⟨-, -, heq⟩ | ⟨-, -, heq⟩ := offer_cases i s <;> rw [heq] <;> rfl

/-- The word of a command that does not run is ignored, or accepted while BUSY = 0, with or without a fault (R110). -/
theorem commandFrame_offer (p : Phase) (hother : s.busy = false ∨ runningOf s.seq ≠ some i) :
    CommandFrame i p s (offer i s) := by
  have houtside : SameOutside s (offer i s) := by
    rw [offer_frame]
    exact ⟨rfl, rfl, rfl, rfl, rfl, rfl, rfl, rfl⟩
  have hign : IgnKept i s (offer i s) := fun hbusy hrun =>
    hother.elim (fun hidle => absurd (hidle.symm.trans hbusy) Bool.false_ne_true) (absurd hrun)
  have hidle (htaken : ignores (encode i) s = false) : s.busy = false :=
    Bool.eq_false_iff.2 fun hbusy => Bool.false_ne_true (htaken.symm.trans ((ignores_iff _ s).2 (.inl hbusy)))
  obtain ⟨-, heq⟩ | ⟨htaken, -, heq⟩ | ⟨htaken, -, heq⟩ := offer_cases i s <;> rw [heq] at houtside hign ⊢
  · exact ⟨houtside, .inl ⟨rfl, rfl, rfl⟩, .inl rfl, .inl rfl, hign, .inl rfl, .inl rfl, .inl rfl⟩
  · exact ⟨houtside, .inl ⟨rfl, rfl, rfl⟩, .inl rfl, .inr ⟨rfl, hidle htaken⟩, hign, .inl rfl, .inl rfl, .inl rfl⟩
  · exact ⟨houtside, .inr ⟨rfl, nofun, rfl, rfl⟩, .inl rfl, .inr ⟨rfl, hidle htaken⟩, hign,
      .inr (.inr ⟨rfl, rfl, rfl⟩), .inl rfl, .inl rfl⟩

end

/-! ## One event of COUNT -/

theorem engineStep_count {s : State} {p : CountPt} (hbusy : s.busy = true) (hseq : s.seq = .count p) :
    engineStep s = .next (countEvent p s) :=
  (engineStep_running hbusy (congrArg runningOf hseq)).trans (exec_count_running hbusy hseq)

theorem countEvent_tally {s : State} (hmax : s.total ≠ 0xFFFFFFFF#32) (b : Byte) :
    countEvent (.tally b) s = goto (.count .pop) (countByte b s) := if_neg hmax

theorem countEvent_overflow {s : State} (hmax : s.total = 0xFFFFFFFF#32) (b : Byte) :
    countEvent (.tally b) s = raiseFault .countOverflow (b.setWidth 32) s := if_pos hmax

/-- Settles O12: the popped byte is counted, or TOTAL cannot hold one more. -/
theorem countCountsByte : Obligations.CountCountsByte := by
  refine fun s b hbusy hseq => ⟨fun hmax => ?_, fun hmax => ?_⟩
  · rw [exec_count_running hbusy hseq, countEvent_tally hmax]
    rfl
  · rw [exec_count_running hbusy hseq, countEvent_overflow hmax, ← BitVec.ofNat_toNat]
    rfl

/-- t differs from s at most in the control state, the input FIFO, HIST and TOTAL: all that an acceptance or an event of
COUNT writes (R110, R160). -/
def CountWritesOnly (s t : State) : Prop :=
  t = { s with
    cmdWord := t.cmdWord, busy := t.busy, fault := t.fault, cmdIgn := t.cmdIgn, phase := t.phase,
    faultCode := t.faultCode, faultInfo := t.faultInfo, intStatus := t.intStatus, progress := t.progress,
    seq := t.seq, inFifo := t.inFifo, hist := t.hist, total := t.total }

theorem countEvent_frame {s : State} {p : CountPt} (hbusy : s.busy = true) :
    CommandFrame .count .counted s (countEvent p s) ∧ CountWritesOnly s (countEvent p s) := by
  have hkept : ControlKept s s := rfl
  cases p with
  | start => exact ⟨ControlKept.commandFrame rfl (.inl rfl) (.inl rfl), rfl⟩
  | pop =>
    obtain ⟨-, hpop⟩ | ⟨x, rest, hin, hpop⟩ := inPop_cases s
    · simp only [countEvent, hpop]
      exact ⟨hkept.commandFrame (.inl rfl) (.inl rfl), rfl⟩
    · cases x <;> simp only [countEvent, hpop] <;>
        exact ⟨ControlKept.commandFrame rfl (.inr ⟨_, hin⟩) (.inl rfl), rfl⟩
  | tally b =>
    by_cases hmax : s.total = 0xFFFFFFFF#32
    · rw [countEvent_overflow hmax]
      exact ⟨hkept.commandFrame_raiseFault (code := .countOverflow) nofun _ (.inl rfl) (.inl rfl), rfl⟩
    · rw [countEvent_tally hmax]
      exact ⟨ControlKept.commandFrame rfl (.inl rfl) (.inl rfl), rfl⟩
  | done => exact ⟨hkept.commandFrame_complete hbusy (.inl rfl) (.inl rfl), rfl⟩

theorem runningOf_eq_count {q : Seq} (h : runningOf q = some .count) : ∃ p, q = .count p := by
  cases q <;> cases h
  exact ⟨_, rfl⟩

theorem exec_count_frame {s t : State} (h : exec .count s = .next t) :
    CommandFrame .count .counted s t ∧ CountWritesOnly s t := by
  by_cases hother : s.busy = false ∨ runningOf s.seq ≠ some .count
  · rw [exec_eq_offer _ s hother] at h
    cases h
    refine ⟨commandFrame_offer _ hother, ?_⟩
    unfold CountWritesOnly
    rw [offer_frame]
  · obtain ⟨hbusy, hrun⟩ : s.busy = true ∧ runningOf s.seq = some .count := by simpa using hother
    obtain ⟨p, hseq⟩ := runningOf_eq_count hrun
    rw [exec_count_running hbusy hseq] at h
    cases h
    exact countEvent_frame hbusy

/-- Settles O15: by the points of COUNT, and its acceptance. -/
theorem countFrame : Obligations.CountFrame := by
  intro s t h
  obtain ⟨hframe, ht⟩ := exec_count_frame h
  refine ⟨hframe, ?_⟩
  rw [ht]
  exact ⟨rfl, ⟨rfl, rfl, rfl⟩, ⟨rfl, rfl⟩, rfl, ⟨rfl, rfl⟩, ⟨rfl, rfl⟩, ⟨rfl, rfl, rfl⟩, ⟨rfl, rfl⟩⟩

/-! ## A whole COUNT -/

/-- HIST, TOTAL and PROGRESS are those of the bytes bs (R36, R160, R161). -/
structure Counted (bs : List Byte) (s : State) : Prop where
  hist : ∀ b : Byte, (tabGet s.hist b).toNat = bs.count b
  total : s.total.toNat = bs.length
  sum : HistOk s
  progress : s.progress = s.total

theorem counted_countInit {s : State} (hprogress : s.progress = 0#32) : Counted [] (countInit s) :=
  ⟨fun b => congrArg BitVec.toNat (tabGet_replicate 0#32 b), rfl, histSum_clear.symm, hprogress⟩

theorem Counted.withInput {bs : List Byte} {s : State} (h : Counted bs s) (ts : List Token) :
    Counted bs (withInput ts s) :=
  ⟨h.hist, h.total, h.sum, h.progress⟩

theorem Counted.total_ne_max {bs : List Byte} {s : State} (h : Counted bs s) (hroom : bs.length + 1 < 2 ^ 32) :
    s.total ≠ 0xFFFFFFFF#32 := by
  have htotal := h.total
  bv_omega

/-- One more byte: no entry of HIST is above the number of bytes, so neither increment wraps (R160). -/
theorem Counted.countByte {bs : List Byte} {s : State} (h : Counted bs s) (hroom : bs.length + 1 < 2 ^ 32) (b : Byte) :
    Counted (bs ++ [b]) (countByte b s) := by
  refine ⟨fun c => ?_, ?_, h.sum.countByte (h.total_ne_max hroom) b, rfl⟩
  · rw [countByte_hist, List.count_append]
    by_cases hc : b = c
    · subst hc
      have hle : bs.count b ≤ bs.length := List.count_le_length
      have hold := h.hist b
      rw [tabGet_tabSet_self, List.count_singleton_self]
      bv_omega
    · rw [tabGet_tabSet_ne _ _ hc, h.hist c, List.count_singleton, if_neg (by simpa using hc), Nat.add_zero]
  · have htotal := h.total
    rw [countByte_total, List.length_append, List.length_singleton]
    bv_omega

/-- Where COUNT goes on after it popped a token (R160). -/
def countTook : Token → CountPt
  | .eos => .done
  | .byte b => .tally b

theorem engineStep_count_pop {s : State} {x : Token} {rest : List Token} (hbusy : s.busy = true)
    (hin : s.inFifo = x :: rest) :
    engineStep (goto (.count .pop) s) = .next (goto (.count (countTook x)) (withInput rest s)) := by
  rw [engineStep_count (s := goto (.count .pop) s) (p := .pop) hbusy rfl, countEvent,
    inPop_of_cons (s := goto (.count .pop) s) hin]
  cases x <;> rfl

theorem engineStep_count_tally {s : State} (hbusy : s.busy = true) (hmax : s.total ≠ 0xFFFFFFFF#32) (b : Byte) :
    engineStep (goto (.count (.tally b)) s) = .next (goto (.count .pop) (countByte b s)) := by
  rw [engineStep_count (s := goto (.count (.tally b)) s) hbusy rfl,
    countEvent_tally (s := goto (.count (.tally b)) s) hmax]
  rfl

/-- The bytes of the stream, from an InPop to the one that finds EOS: they are counted after those counted before, and
nothing else changes but the input FIFO (R160). -/
theorem reaches_count_done {before bs : List Byte} {rest : List Token} {s : State} (hbusy : s.busy = true)
    (hin : s.inFifo = bs.map Token.byte ++ .eos :: rest) (hcounted : Counted before s)
    (hroom : before.length + bs.length < 2 ^ 32) :
    ∃ t, Reaches (goto (.count .pop) s) (goto (.count .done) t) ∧ Counted (before ++ bs) t ∧
      t = { s with inFifo := rest, hist := t.hist, total := t.total, progress := t.progress } := by
  induction bs generalizing before s with
  | nil =>
    rw [List.append_nil]
    exact ⟨withInput rest s, .of_step (engineStep_count_pop hbusy hin), hcounted.withInput rest, rfl⟩
  | cons b bs ih =>
    rw [List.length_cons] at hroom
    have hone : before.length + 1 < 2 ^ 32 := by omega
    have hrest : (before ++ [b]).length + bs.length < 2 ^ 32 := by
      rw [List.length_append, List.length_singleton]
      omega
    have hpopped := hcounted.withInput (bs.map Token.byte ++ .eos :: rest)
    have htally := engineStep_count_tally (s := withInput (bs.map Token.byte ++ .eos :: rest) s) hbusy
      (hpopped.total_ne_max hone) b
    obtain ⟨t, hreach, hall, ht⟩ := ih (s := countByte b (withInput (bs.map Token.byte ++ .eos :: rest) s)) hbusy rfl
      (hpopped.countByte hone b) hrest
    rw [List.append_assoc, List.singleton_append] at hall
    exact ⟨t, .head (engineStep_count_pop hbusy hin) (.head htally hreach), hall, ht⟩

/-- Settles O14: the first event clears, each byte of the stream is counted, by induction on the stream, and EOS leads
to the completion. -/
theorem countRunCountsStream : Obligations.CountRunCountsStream := by
  intro s bs rest hbusy hseq hprogress hin hlen
  obtain ⟨t, hstream, ⟨hhist, htotal, hsum, hprogress'⟩, ht⟩ :=
    reaches_count_done (s := countInit s) hbusy hin (counted_countInit hprogress) (by simpa using hlen)
  have hbusy' : t.busy = s.busy := by rw [ht]; rfl
  have hfault : t.fault = s.fault := by rw [ht]; rfl
  have hpending : t.intStatus = s.intStatus := by rw [ht]; rfl
  have hdone := engineStep_count (s := goto (.count .done) t) (hbusy'.trans hbusy) rfl
  obtain ⟨n, hrun⟩ := Reaches.head (engineStep_count hbusy hseq) (hstream.trans (.of_step hdone))
  exact ⟨n, _, hrun, hhist, htotal, hsum, hprogress', congrArg State.inFifo ht, rfl, rfl, rfl, hfault,
    congrArg (· ||| 1#2) hpending⟩

end Sys2Proof.Machine

/-! PROOFS. The events of BUILD (spec/43_build.md R170 to R178): its first event, one pass of its loop, its last event,
and what every event of it leaves unchanged. -/

namespace Sys2Proof.Machine

open Sys2Proof

/-! ## The symbols of HIST -/

theorem mem_present {h : Vector Word 256} {b : Byte} : b ∈ present h ↔ tabGet h b ≠ 0#32 := by
  have hall : b ∈ (List.range 256).map (BitVec.ofNat 8) :=
    List.mem_map.2 ⟨b.toNat, List.mem_range.2 b.isLt, BitVec.ofNat_toNat 8 b⟩
  simp [present, List.mem_filter, hall]

theorem pairwise_lt_present (h : Vector Word 256) : (present h).Pairwise (fun a b => a.toNat < b.toNat) := by
  refine List.Pairwise.filter _ (List.pairwise_map.2 ?_)
  refine List.pairwise_lt_range.imp_of_mem fun ha hb hlt => ?_
  rw [List.mem_range] at ha hb
  simpa [Nat.mod_eq_of_lt, ha, hb] using hlt

theorem nodup_of_pairwise_lt {bs : List Byte} (h : bs.Pairwise (fun a b => a.toNat < b.toNat)) : bs.Nodup :=
  h.imp fun hlt heq => absurd (congrArg BitVec.toNat heq) hlt.ne

/-- S is the one list of the symbols with a count in ascending order (R170). -/
theorem present_eq {h : Vector Word 256} {ss : List Byte} (hasc : ss.Pairwise (fun a b => a.toNat < b.toNat))
    (hmem : ∀ b : Byte, b ∈ ss ↔ tabGet h b ≠ 0#32) : present h = ss := by
  have hperm : (present h).Perm ss :=
    (List.perm_ext_iff_of_nodup (nodup_of_pairwise_lt (pairwise_lt_present h)) (nodup_of_pairwise_lt hasc)).2
      fun b => mem_present.trans (hmem b).symm
  exact hperm.eq_of_pairwise (fun _ _ _ _ hlt hgt => absurd hlt hgt.asymm) (pairwise_lt_present h) hasc

theorem length_present (h : Vector Word 256) :
    (present h).length = ((List.range 256).filter (fun i => tabGet h (BitVec.ofNat 8 i) != 0#32)).length := by
  rw [present, List.filter_map, List.length_map]
  rfl

/-! ## The first event -/

theorem buildStart_of_none {s : State} (h : present s.hist = []) :
    buildStart s = complete .built (singleCode 0#8 (clearCodes s)) := by
  rw [buildStart, h]

theorem buildStart_of_one {s : State} {b : Byte} (h : present s.hist = [b]) :
    buildStart s = complete .built (singleCode b (clearCodes s)) := by
  rw [buildStart, h]

theorem buildStart_of_many {s : State} (h : 2 ≤ (present s.hist).length) :
    buildStart s = goto (.build .merge) (makeLeaves (present s.hist) (clearCodes s)) := by
  match heq : present s.hist with
  | [] => simp [heq] at h
  | [b] => simp [heq] at h
  | a :: b :: bs => rw [buildStart, heq]

/-- Writing the value 0 into the clear table of values leaves it clear (R176). -/
theorem tabSet_replicate {α : Type} (v : α) (b : Byte) :
    tabSet (Vector.replicate 256 v) b v = Vector.replicate 256 v :=
  Vector.set_replicate_self

/-- Settles O16: S is empty or has one symbol, and in both cases one codeword is written. -/
theorem buildDegenerateInputs : Obligations.BuildDegenerateInputs := by
  intro s b hbusy hseq hhist
  have hstart : buildStart s = complete .built (singleCode b (clearCodes s)) := by
    obtain ⟨hnone, rfl⟩ | hone := hhist
    · exact buildStart_of_none (present_eq .nil fun c => by simp [hnone c])
    · exact buildStart_of_one (present_eq (List.pairwise_singleton _ b) fun c => by simp [hone c])
  rw [exec_build_running hbusy hseq, buildEvent, hstart]
  simp [complete, singleCode, setCode, clearCodes, tabSet_replicate]

/-! ## The leaves -/

theorem nodeGet_leafInto_self {i : Nat} (hi : i < 511) (h : Vector Word 256) (t : Vector Node 511) (b : Byte) :
    nodeGet (leafInto h t i b) (BitVec.ofNat 9 i) =
      { nodeGet t (BitVec.ofNat 9 i) with
        weight := tabGet h b, seq := BitVec.ofNat 9 i, leaf := true, sym := b } := by
  have hix : (BitVec.ofNat 9 i).toNat < 511 := by
    rwa [BitVec.toNat_ofNat, Nat.mod_eq_of_lt (by omega)]
  rw [leafInto, nodeGet_nodeSet_self _ _ hix]

theorem nodeGet_leafInto_lt {i : Nat} (hi : i < 511) {n : NodeIx} (hn : n.toNat < i) (h : Vector Word 256)
    (t : Vector Node 511) (b : Byte) : nodeGet (leafInto h t i b) n = nodeGet t n := by
  refine nodeGet_nodeSet_ne t _ fun heq => ?_
  rw [← heq, BitVec.toNat_ofNat, Nat.mod_eq_of_lt (by omega)] at hn
  exact hn.false

theorem nodeGet_leavesInto_lt {bs : List Byte} {i : Nat} (hi : i + bs.length ≤ 511) {n : NodeIx} (hn : n.toNat < i)
    (h : Vector Word 256) (t : Vector Node 511) : nodeGet (leavesInto h t i bs) n = nodeGet t n := by
  induction bs generalizing i t with
  | nil => rfl
  | cons b bs ih =>
    rw [List.length_cons] at hi
    rw [leavesInto, ih (by omega) (by omega), nodeGet_leafInto_lt (by omega) hn]

/-- Node n is the leaf that MakeLeaves makes of symbol b (R172). -/
structure IsLeafOf (h : Vector Word 256) (t : Vector Node 511) (n : NodeIx) (b : Byte) : Prop where
  weight : (nodeGet t n).weight = tabGet h b
  seq : (nodeGet t n).seq = n
  leaf : (nodeGet t n).leaf = true
  sym : (nodeGet t n).sym = b

/-- MakeLeaves from index i on makes node i + j the leaf of the j-th symbol (R172). -/
theorem isLeafOf_leavesInto {h : Vector Word 256} {bs : List Byte} {i j : Nat} {b : Byte}
    (hi : i + bs.length ≤ 511) (hj : bs[j]? = some b) (t : Vector Node 511) :
    IsLeafOf h (leavesInto h t i bs) (BitVec.ofNat 9 (i + j)) b := by
  induction bs generalizing i j t with
  | nil => cases hj
  | cons c bs ih =>
    rw [List.length_cons] at hi
    cases j with
    | zero =>
      cases hj
      have hkept : nodeGet (leavesInto h t i (b :: bs)) (BitVec.ofNat 9 i) =
          nodeGet (leafInto h t i b) (BitVec.ofNat 9 i) := by
        refine nodeGet_leavesInto_lt (i := i + 1) (by omega) ?_ h (leafInto h t i b)
        rw [BitVec.toNat_ofNat, Nat.mod_eq_of_lt (by omega)]
        exact i.lt_succ_self
      rw [nodeGet_leafInto_self (by omega)] at hkept
      constructor <;> rw [Nat.add_zero, hkept]
    | succ j =>
      rw [Nat.add_succ, ← Nat.succ_add]
      exact ih (by omega) hj (leafInto h t i c)

/-- MakeLeaves for S: there are indices for all of its symbols (R47, R172). -/
theorem isLeafOf_makeLeaves {s : State} {i : Nat} {b : Byte} (hi : (present s.hist)[i]? = some b) :
    IsLeafOf s.hist (makeLeaves (present s.hist) (clearCodes s)).node (BitVec.ofNat 9 i) b := by
  have hlen := present_length_le s.hist
  have hleaf := isLeafOf_leavesInto (h := s.hist) (i := 0) (by omega) hi s.node
  rwa [Nat.zero_add] at hleaf

theorem toNat_nextSeq_makeLeaves (s : State) :
    (makeLeaves (present s.hist) (clearCodes s)).nextSeq.toNat = (present s.hist).length := by
  have hlen := present_length_le s.hist
  exact (BitVec.toNat_ofNat _ 9).trans (Nat.mod_eq_of_lt (by omega))

/-- Settles O17: S is the list of the symbols, and MakeLeaves makes a leaf of each, by induction on S. -/
theorem buildMakesLeaves : Obligations.BuildMakesLeaves := by
  intro s ss hbusy hseq hasc hmem htwo
  obtain rfl := present_eq hasc hmem
  refine ⟨_, exec_build_running hbusy hseq, ?_⟩
  rw [buildStart_of_many htwo]
  refine ⟨rfl, hbusy, rfl, rfl, rfl, rfl, rfl, toNat_nextSeq_makeLeaves s, fun i b hi => ?_⟩
  obtain ⟨hweight, hnode, hleaf, hsym⟩ := isLeafOf_makeLeaves hi
  exact ⟨hweight, hnode, hleaf, hsym⟩

/-! ## One pass of the loop -/

/-- The order of ExtractMin as an order of numbers: (weight, seq) with seq as the low nine bits (R173). -/
def nodeKey (x : Node) : Nat := x.weight.toNat * 2 ^ 9 + x.seq.toNat

theorem nodeKey_lt_iff (a b : Node) :
    nodeKey a < nodeKey b ↔ a.weight < b.weight ∨ (a.weight = b.weight ∧ a.seq < b.seq) := by
  have ha := a.seq.isLt
  have hb := b.seq.isLt
  simp only [nodeKey, BitVec.lt_def, ← BitVec.toNat_inj]
  omega

theorem keyLt_iff (a b : Node) : keyLt a b = true ↔ nodeKey a < nodeKey b := by
  simp [keyLt, nodeKey_lt_iff]

theorem minStep_le (t : Vector Node 511) (m y : NodeIx) :
    nodeKey (nodeGet t (minStep t m y)) ≤ nodeKey (nodeGet t m) ∧
      nodeKey (nodeGet t (minStep t m y)) ≤ nodeKey (nodeGet t y) := by
  unfold minStep
  split
  next h => exact ⟨((keyLt_iff _ _).1 h).le, le_rfl⟩
  next h => exact ⟨le_rfl, Nat.le_of_not_lt fun hlt => h ((keyLt_iff _ _).2 hlt)⟩

/-- The candidate after a pass over the queue has the smallest key of all (R173). -/
theorem foldl_minStep_le (t : Vector Node 511) (xs : List NodeIx) (x : NodeIx) :
    ∀ y ∈ x :: xs, nodeKey (nodeGet t (xs.foldl (minStep t) x)) ≤ nodeKey (nodeGet t y) := by
  induction xs generalizing x with
  | nil => simp
  | cons z zs ih =>
    obtain ⟨hx, hz⟩ := minStep_le t x z
    have hstep := ih (minStep t x z) _ List.mem_cons_self
    intro y hy
    rw [List.foldl_cons]
    simp only [List.mem_cons] at hy
    obtain rfl | rfl | hy := hy
    · exact hstep.trans hx
    · exact hstep.trans hz
    · exact ih _ y (List.mem_cons_of_mem _ hy)

theorem extractMin_le {t : Vector Node 511} {q q' : List NodeIx} {m : NodeIx} (h : extractMin t q = some (m, q')) :
    ∀ y ∈ q, nodeKey (nodeGet t m) ≤ nodeKey (nodeGet t y) := by
  cases q with
  | nil => cases h
  | cons x xs =>
    cases h
    exact foldl_minStep_le t xs x

theorem extractMin_ne_none {t : Vector Node 511} {q : List NodeIx} (h : q ≠ []) :
    ∃ m q', extractMin t q = some (m, q') := by
  cases q with
  | nil => exact absurd rfl h
  | cons x xs => exact ⟨_, _, rfl⟩

/-- With two nodes or more there are two removals, each of a node of least key (R173, R174). -/
theorem extractTwo_of_two_le {t : Vector Node 511} {q : List NodeIx} (h : 2 ≤ q.length) :
    ∃ r l q', extractTwo t q = some (r, l, q') ∧ (∀ y ∈ q, nodeKey (nodeGet t r) ≤ nodeKey (nodeGet t y)) ∧
      ∀ y ∈ q.erase r, nodeKey (nodeGet t l) ≤ nodeKey (nodeGet t y) := by
  obtain ⟨r, q1, hr⟩ := extractMin_ne_none (t := t) (q := q) (by rintro rfl; simp at h)
  obtain ⟨hmem, rfl⟩ := extractMin_some hr
  have hlen := List.length_erase_of_mem hmem
  obtain ⟨l, q2, hl⟩ := extractMin_ne_none (t := t) (q := q.erase r) (by
    intro hnil
    rw [hnil, List.length_nil] at hlen
    omega)
  exact ⟨r, l, q2, by simp only [extractTwo, hr, hl], extractMin_le hr, extractMin_le hl⟩

theorem extractTwo_of_le_one {t : Vector Node 511} {q : List NodeIx} (h : q.length ≤ 1) : extractTwo t q = none := by
  rcases htwo : extractTwo t q with _ | ⟨r, l, q'⟩
  · rfl
  · obtain ⟨-, -, -, hlen⟩ := extractTwo_some htwo
    omega

theorem mergeEvent_of_one {s : State} (h : s.queue.length ≤ 1) :
    mergeEvent s = .next (goto (.build .flatten) s) := by
  rw [mergeEvent, extractTwo_of_le_one h]

theorem mergeEvent_of_two {s : State} {r l : NodeIx} {q : List NodeIx}
    (h : extractTwo s.node s.queue = some (r, l, q)) (hroom : s.nextSeq.toNat < 511) :
    mergeEvent s = .next (mergeInto r l q s) := by
  simp only [mergeEvent, h, if_pos hroom]

/-- Settles O18: the two removals take nodes of least key, which is the order of (weight, seq). -/
theorem mergeJoinsTwoLightest : Obligations.MergeJoinsTwoLightest := by
  intro s hbusy hseq
  refine ⟨fun htwo hroom => ?_, fun hone => ?_⟩
  · obtain ⟨r, l, q, heq, hleast, hnext⟩ := extractTwo_of_two_le (t := s.node) htwo
    obtain ⟨hr, hl, rfl, -⟩ := extractTwo_some heq
    refine ⟨r, l, hr, hl, fun y hy => ?_, fun y hy => ?_, ?_⟩
    · rw [← nodeKey_lt_iff]
      exact (hleast y hy).not_gt
    · rw [← nodeKey_lt_iff]
      exact (hnext y hy).not_gt
    · exact (exec_build_running hbusy hseq).trans (mergeEvent_of_two heq hroom)
  · exact (exec_build_running hbusy hseq).trans (mergeEvent_of_one hone)

end Sys2Proof.Machine

/-! PROOFS. The last event of BUILD (spec/43_build.md R170, R175, R178): the paths of the leaves, the table written from
them, the fault of a leaf too deep; and what every event of BUILD leaves unchanged. -/

namespace Sys2Proof.Machine

open Sys2Proof

/-! ## The paths of the leaves -/

theorem leafPath_eq_iff (x : LeafPath) (sym : Byte) (depth path : Nat) :
    x = { sym := sym, depth := depth, path := path } ↔ x.sym = sym ∧ x.depth = depth ∧ x.path = path := by
  cases x
  simp

theorem mem_leafPaths_of_leaf {t : Vector Node 511} {n : NodeIx} (h : (nodeGet t n).leaf = true) (f : Nat)
    (x : LeafPath) :
    x ∈ leafPaths t (f + 1) n ↔ x.sym = (nodeGet t n).sym ∧ x.depth = 0 ∧ x.path = 0 := by
  rw [leafPaths_of_leaf h, List.mem_singleton, leafPath_eq_iff]

theorem mem_map_up_iff {ps : List LeafPath} {bit : Nat} {x : LeafPath} : x ∈ ps.map (LeafPath.up bit) ↔
    ∃ y ∈ ps, x.sym = y.sym ∧ x.depth = y.depth + 1 ∧ x.path = bit * 2 ^ y.depth + y.path := by
  simp only [List.mem_map, eq_comm (b := x), LeafPath.up, leafPath_eq_iff]

theorem mem_leafPaths_of_inner {t : Vector Node 511} {n : NodeIx} (h : (nodeGet t n).leaf = false) (f : Nat)
    (x : LeafPath) :
    x ∈ leafPaths t (f + 1) n ↔
      (∃ y ∈ leafPaths t f (nodeGet t n).left, x.sym = y.sym ∧ x.depth = y.depth + 1 ∧ x.path = y.path) ∨
      (∃ y ∈ leafPaths t f (nodeGet t n).right,
        x.sym = y.sym ∧ x.depth = y.depth + 1 ∧ x.path = 2 ^ y.depth + y.path) := by
  simp only [leafPaths_of_inner h, List.mem_append, mem_map_up_iff, Nat.zero_mul, Nat.zero_add, Nat.one_mul]

theorem codePaths_of_root {s : State} {root : NodeIx} (h : s.queue = [root]) :
    codePaths s = leafPaths s.node 511 root := by
  rw [codePaths, rootOf, h, List.headD_cons]

/-! ## The table written from paths -/

/-- Writing the table changes nothing else (R170). -/
theorem writePaths_frame (ps : List LeafPath) (s : State) : writePaths ps s = { s with
    codeLen := (writePaths ps s).codeLen, codeVal := (writePaths ps s).codeVal } := by
  induction ps generalizing s with
  | nil => rfl
  | cons x xs ih => exact ih (writePath s x)

theorem writePaths_of_not_mem {ps : List LeafPath} {b : Byte} (h : ∀ x ∈ ps, x.sym ≠ b) (s : State) :
    tabGet (writePaths ps s).codeLen b = tabGet s.codeLen b ∧
      tabGet (writePaths ps s).codeVal b = tabGet s.codeVal b :=
  (writePaths_entry_cases ps s b).resolve_right fun ⟨x, hx, hsym, _⟩ => h x hx hsym

/-- Where no two paths have the same symbol, none is written over another (R170). -/
theorem writePaths_of_mem {ps : List LeafPath} (hdistinct : ps.Pairwise (fun x y => x.sym ≠ y.sym)) {x : LeafPath}
    (hx : x ∈ ps) (s : State) :
    tabGet (writePaths ps s).codeLen x.sym = BitVec.ofNat 5 x.depth ∧
      tabGet (writePaths ps s).codeVal x.sym = BitVec.ofNat 31 x.path := by
  induction ps generalizing s with
  | nil => cases hx
  | cons y ys ih =>
    obtain ⟨hy, hys⟩ := List.pairwise_cons.1 hdistinct
    obtain rfl | hx := List.mem_cons.1 hx
    · obtain ⟨hlen, hval⟩ := writePaths_of_not_mem (fun z hz => (hy z hz).symm) (writePath s x)
      exact ⟨hlen.trans (tabGet_tabSet_self _ _ _), hval.trans (tabGet_tabSet_self _ _ _)⟩
    · exact ih hys hx (writePath s y)

/-- The codewords as numbers: a path of at most 31 bits fits in its entry (R44, R170). -/
theorem toNat_writePaths {ps : List LeafPath} (hdistinct : ps.Pairwise (fun x y => x.sym ≠ y.sym))
    (hdepth : ∀ x ∈ ps, x.depth ≤ 31) (hfit : ∀ x ∈ ps, x.Fits) {x : LeafPath} (hx : x ∈ ps) (s : State) :
    (tabGet (writePaths ps s).codeLen x.sym).toNat = x.depth ∧
      (tabGet (writePaths ps s).codeVal x.sym).toNat = x.path := by
  obtain ⟨hlen, hval⟩ := writePaths_of_mem hdistinct hx s
  have hd := hdepth x hx
  have hp : x.path < 2 ^ 31 := (hfit x hx).trans_le (Nat.pow_le_pow_right Nat.zero_lt_two hd)
  rw [hlen, hval, BitVec.toNat_ofNat, BitVec.toNat_ofNat, Nat.mod_eq_of_lt (by omega), Nat.mod_eq_of_lt hp]
  exact ⟨rfl, rfl⟩

theorem toNat_ofNat_length_present (h : Vector Word 256) :
    (BitVec.ofNat 9 (present h).length).toNat = (present h).length := by
  have hle := present_length_le h
  rw [BitVec.toNat_ofNat, Nat.mod_eq_of_lt (by omega)]

/-! ## The last event -/

theorem flattenTree_of_short {s : State} (h : ∀ x ∈ codePaths s, x.depth ≤ 31) :
    flattenTree s = complete .built
      { writePaths (codePaths s) s with numEntries := BitVec.ofNat 9 (present s.hist).length } := by
  rw [flattenTree, (tooLong_eq_none_iff _).2 h]

theorem flattenTree_of_tooLong {s : State} {b : Byte} (h : tooLong (codePaths s) = some b) :
    flattenTree s = raiseFault .codeTooLong (b.setWidth 32) (clearCodes s) := by
  rw [flattenTree, h]

/-- Settles O19: no path is written over another, and 31 bits hold each. -/
theorem buildWritesPaths : Obligations.BuildWritesPaths := by
  refine ⟨fun t f n hleaf => mem_leafPaths_of_leaf hleaf f, fun t f n hinner => mem_leafPaths_of_inner hinner f,
    fun s root => codePaths_of_root, fun s hbusy hseq hdepth hdistinct => ?_⟩
  refine ⟨_, exec_build_running hbusy hseq, ?_⟩
  have hcodes {x : LeafPath} (hx : x ∈ codePaths s) :=
    toNat_writePaths hdistinct hdepth (fits_of_mem_leafPaths _ _ _) hx s
  rw [flattenTree_of_short hdepth, ← length_present, writePaths_frame]
  exact ⟨rfl, rfl, rfl, rfl, rfl, toNat_ofNat_length_present _, fun x hx => hcodes hx,
    fun b hb => writePaths_of_not_mem hb s⟩

/-- The smallest symbol of a path of more than 31 bits is the one the search finds (R178). -/
theorem tooLong_eq_some {ps : List LeafPath} {b : Byte} (hb : ∃ x ∈ ps, x.sym = b ∧ 31 < x.depth)
    (hleast : ∀ x ∈ ps, 31 < x.depth → b.toNat ≤ x.sym.toNat) : tooLong ps = some b := by
  refine List.find?_eq_some_iff_getElem.2 ⟨by simpa using hb, b.toNat, by simpa using b.isLt, by simp, fun j hj => ?_⟩
  have hj' : j % 2 ^ 8 = j := Nat.mod_eq_of_lt (hj.trans b.isLt)
  simp only [List.getElem_map, List.getElem_range, Bool.not_eq_true', List.any_eq_false, Bool.and_eq_true,
    beq_iff_eq, decide_eq_true_eq, not_and]
  intro x hx hsym hdeep
  have hle := hleast x hx hdeep
  rw [hsym, BitVec.toNat_ofNat, hj'] at hle
  omega

/-- Settles O20: the search finds the smallest symbol. -/
theorem buildFaultsTooLong : Obligations.BuildFaultsTooLong := by
  intro s b hbusy hseq hdeep hleast
  rw [exec_build_running hbusy hseq, buildEvent, flattenTree_of_tooLong (tooLong_eq_some hdeep hleast),
    ← BitVec.ofNat_toNat]
  rfl

/-! ## What BUILD leaves unchanged -/

/-- t differs from s at most in the control state, the code table and the node store: all that an acceptance or an event
of BUILD writes (R110, R170). -/
def BuildWritesOnly (s t : State) : Prop :=
  t = { s with
    cmdWord := t.cmdWord, busy := t.busy, fault := t.fault, cmdIgn := t.cmdIgn, phase := t.phase,
    faultCode := t.faultCode, faultInfo := t.faultInfo, intStatus := t.intStatus, progress := t.progress,
    seq := t.seq, codeLen := t.codeLen, codeVal := t.codeVal, numEntries := t.numEntries, node := t.node,
    queue := t.queue, nextSeq := t.nextSeq }

theorem buildStart_frame {s : State} (hbusy : s.busy = true) :
    CommandFrame .build .built s (buildStart s) ∧ BuildWritesOnly s (buildStart s) := by
  unfold buildStart
  split
  · exact ⟨ControlKept.commandFrame_complete rfl hbusy (.inl rfl) (.inl rfl), rfl⟩
  · exact ⟨ControlKept.commandFrame_complete rfl hbusy (.inl rfl) (.inl rfl), rfl⟩
  · exact ⟨ControlKept.commandFrame rfl (.inl rfl) (.inl rfl), rfl⟩

theorem mergeEvent_frame {s t : State} (h : mergeEvent s = .next t) :
    CommandFrame .build .built s t ∧ BuildWritesOnly s t := by
  obtain ⟨-, heq⟩ | ⟨r, l, q, -, -, heq⟩ | ⟨-, -, -, -, -, heq⟩ := mergeEvent_cases s <;> rw [heq] at h <;> cases h
  · exact ⟨ControlKept.commandFrame rfl (.inl rfl) (.inl rfl), rfl⟩
  · exact ⟨ControlKept.commandFrame rfl (.inl rfl) (.inl rfl), rfl⟩

theorem flattenTree_frame {s : State} (hbusy : s.busy = true) :
    CommandFrame .build .built s (flattenTree s) ∧ BuildWritesOnly s (flattenTree s) := by
  obtain ⟨b, -, heq⟩ | ⟨-, heq⟩ := flattenTree_cases s <;> rw [heq]
  · have hkept : ControlKept s (clearCodes s) := rfl
    exact ⟨hkept.commandFrame_raiseFault (code := .codeTooLong) nofun _ (.inl rfl) (.inl rfl), rfl⟩
  · rw [writePaths_frame]
    exact ⟨ControlKept.commandFrame_complete rfl hbusy (.inl rfl) (.inl rfl), rfl⟩

theorem buildEvent_frame {s t : State} {p : BuildPt} (hbusy : s.busy = true) (h : buildEvent p s = .next t) :
    CommandFrame .build .built s t ∧ BuildWritesOnly s t := by
  cases p with
  | start =>
    cases h
    exact buildStart_frame hbusy
  | merge => exact mergeEvent_frame h
  | flatten =>
    cases h
    exact flattenTree_frame hbusy

theorem runningOf_eq_build {q : Seq} (h : runningOf q = some .build) : ∃ p, q = .build p := by
  cases q <;> cases h
  exact ⟨_, rfl⟩

theorem exec_build_frame {s t : State} (h : exec .build s = .next t) :
    CommandFrame .build .built s t ∧ BuildWritesOnly s t := by
  by_cases hother : s.busy = false ∨ runningOf s.seq ≠ some .build
  · rw [exec_eq_offer _ s hother] at h
    cases h
    refine ⟨commandFrame_offer _ hother, ?_⟩
    unfold BuildWritesOnly
    rw [offer_frame]
  · obtain ⟨hbusy, hrun⟩ : s.busy = true ∧ runningOf s.seq = some .build := by simpa using hother
    obtain ⟨p, hseq⟩ := runningOf_eq_build hrun
    rw [exec_build_running hbusy hseq] at h
    exact buildEvent_frame hbusy h

/-- Settles O24: by the points of BUILD, and its acceptance. -/
theorem buildFrame : Obligations.BuildFrame := by
  intro s t h
  obtain ⟨hframe, ht⟩ := exec_build_frame h
  refine ⟨hframe, ?_⟩
  rw [ht]
  exact ⟨⟨rfl, rfl⟩, rfl, ⟨rfl, rfl⟩, rfl, rfl, ⟨rfl, rfl⟩, ⟨rfl, rfl⟩, ⟨rfl, rfl⟩⟩

end Sys2Proof.Machine

/-! PROOFS. What BUILD makes of HIST does not depend on what the node store held (spec/43_build.md R180,
spec/10_state.md R47): two runs side by side, in states that agree on the nodes made so far. -/

namespace Sys2Proof.Machine

open Sys2Proof

/-! ## The nodes made so far -/

/-- The nodes below index m form trees: an inner node stands after its children (R172, R174). -/
def ChildrenBelow (t : Vector Node 511) (m : Nat) : Prop :=
  ∀ n : NodeIx, n.toNat < m → (nodeGet t n).leaf = false →
    (nodeGet t n).left.toNat < n.toNat ∧ (nodeGet t n).right.toNat < n.toNat

/-- BUILD between its first and its last event: it has made the nodes below NEXT_SEQ, m, and QUEUE, q, holds indices of
such nodes (R47, R172, R174). -/
structure Forest (t : Vector Node 511) (q : List NodeIx) (m : Nat) : Prop where
  pos : 0 < m
  live : ∀ n ∈ q, n.toNat < m
  below : ChildrenBelow t m

theorem Forest.root_lt {s : State} (h : Forest s.node s.queue s.nextSeq.toNat) :
    (rootOf s).toNat < s.nextSeq.toNat := by
  rw [rootOf]
  cases hq : s.queue with
  | nil => exact h.pos
  | cons n ns => exact h.live n (hq ▸ List.mem_cons_self)

theorem forest_makeLeaves {s : State} (hpos : 0 < (present s.hist).length) :
    Forest (makeLeaves (present s.hist) (clearCodes s)).node (makeLeaves (present s.hist) (clearCodes s)).queue
      (makeLeaves (present s.hist) (clearCodes s)).nextSeq.toNat := by
  have hlen := present_length_le s.hist
  rw [toNat_nextSeq_makeLeaves]
  refine ⟨hpos, fun n hn => ?_, fun n hn hinner => ?_⟩
  · obtain ⟨i, hi, rfl⟩ := List.mem_map.1 hn
    rw [List.mem_range] at hi
    rwa [BitVec.toNat_ofNat, Nat.mod_eq_of_lt (by omega)]
  · have hleaf := isLeafOf_makeLeaves (List.getElem?_eq_getElem hn)
    rw [BitVec.ofNat_toNat, BitVec.setWidth_eq] at hleaf
    exact absurd (hinner.symm.trans hleaf.leaf) Bool.false_ne_true

section

variable {r l : NodeIx} {q : List NodeIx} {s : State}

theorem nodeGet_mergeInto_self (hroom : s.nextSeq.toNat < 511) : nodeGet (mergeInto r l q s).node s.nextSeq =
    { nodeGet s.node s.nextSeq with
      weight := (nodeGet s.node l).weight + (nodeGet s.node r).weight
      seq := s.nextSeq, leaf := false, left := l, right := r } :=
  nodeGet_nodeSet_self _ _ hroom

theorem nodeGet_mergeInto_lt {n : NodeIx} (hn : n.toNat < s.nextSeq.toNat) :
    nodeGet (mergeInto r l q s).node n = nodeGet s.node n :=
  nodeGet_nodeSet_ne _ _ fun heq => by simp [heq] at hn

theorem toNat_nextSeq_mergeInto (hroom : s.nextSeq.toNat < 511) :
    (mergeInto r l q s).nextSeq.toNat = s.nextSeq.toNat + 1 := by
  show (s.nextSeq + 1#9).toNat = _
  bv_omega

theorem eq_or_lt_of_lt_nextSeq_mergeInto {n : NodeIx} (hroom : s.nextSeq.toNat < 511)
    (hn : n.toNat < (mergeInto r l q s).nextSeq.toNat) : n = s.nextSeq ∨ n.toNat < s.nextSeq.toNat := by
  rw [toNat_nextSeq_mergeInto hroom] at hn
  exact (Nat.lt_succ_iff_lt_or_eq.1 hn).symm.imp_left BitVec.eq_of_toNat_eq

/-- The two nodes a Merge joins, and those it leaves, are nodes of QUEUE (R174). -/
theorem Forest.extracted_lt {m : Nat} (h : Forest s.node s.queue m)
    (htwo : extractTwo s.node s.queue = some (r, l, q)) :
    r.toNat < m ∧ l.toNat < m ∧ ∀ n ∈ q, n.toNat < m := by
  obtain ⟨hr, hl, rfl, -⟩ := extractTwo_some htwo
  exact ⟨h.live r hr, h.live l (List.mem_of_mem_erase hl),
    fun n hn => h.live n (List.mem_of_mem_erase (List.mem_of_mem_erase hn))⟩

theorem Forest.mergeInto (h : Forest s.node s.queue s.nextSeq.toNat)
    (htwo : extractTwo s.node s.queue = some (r, l, q)) (hroom : s.nextSeq.toNat < 511) :
    Forest (mergeInto r l q s).node (mergeInto r l q s).queue (mergeInto r l q s).nextSeq.toNat := by
  obtain ⟨hr, hl, hq⟩ := h.extracted_lt htwo
  refine ⟨by rw [toNat_nextSeq_mergeInto hroom]; exact Nat.succ_pos _, fun n hn => ?_, fun n hn hinner => ?_⟩
  · rw [toNat_nextSeq_mergeInto hroom, Nat.lt_succ_iff]
    obtain hn | hn := List.mem_append.1 hn
    · exact (hq n hn).le
    · exact (congrArg BitVec.toNat (List.mem_singleton.1 hn)).le
  · obtain rfl | hlt := eq_or_lt_of_lt_nextSeq_mergeInto hroom hn
    · rw [nodeGet_mergeInto_self hroom]
      exact ⟨hl, hr⟩
    · rw [nodeGet_mergeInto_lt hlt] at hinner ⊢
      exact h.below n hlt hinner

end

/-! ## Two node stores that agree -/

/-- y is x in all that BUILD reads of it: not the children of a leaf, nor the symbol of an inner node (R47). -/
structure NodeAgrees (x y : Node) : Prop where
  weight : y.weight = x.weight
  seq : y.seq = x.seq
  leaf : y.leaf = x.leaf
  sym : x.leaf = true → y.sym = x.sym
  left : x.leaf = false → y.left = x.left
  right : x.leaf = false → y.right = x.right

/-- The node stores agree below index m. -/
def NodesAgree (t1 t2 : Vector Node 511) (m : Nat) : Prop :=
  ∀ n : NodeIx, n.toNat < m → NodeAgrees (nodeGet t1 n) (nodeGet t2 n)

theorem leafPaths_congr {t1 t2 : Vector Node 511} {m : Nat} (hbelow : ChildrenBelow t1 m)
    (hagree : NodesAgree t1 t2 m) (f : Nat) {n : NodeIx} (hn : n.toNat < m) :
    leafPaths t2 f n = leafPaths t1 f n := by
  induction f generalizing n with
  | zero => rfl
  | succ f ih =>
    have hnode := hagree n hn
    cases h : (nodeGet t1 n).leaf
    case true => rw [leafPaths_of_leaf h, leafPaths_of_leaf (hnode.leaf.trans h), hnode.sym h]
    case false =>
      obtain ⟨hleft, hright⟩ := hbelow n hn h
      rw [leafPaths_of_inner h, leafPaths_of_inner (hnode.leaf.trans h), hnode.left h, hnode.right h,
        ih (hleft.trans hn), ih (hright.trans hn)]

theorem minStep_congr {t1 t2 : Vector Node 511} {x y : NodeIx} (hx : NodeAgrees (nodeGet t1 x) (nodeGet t2 x))
    (hy : NodeAgrees (nodeGet t1 y) (nodeGet t2 y)) : minStep t2 x y = minStep t1 x y := by
  have hkey : keyLt (nodeGet t2 y) (nodeGet t2 x) = keyLt (nodeGet t1 y) (nodeGet t1 x) := by
    rw [keyLt, keyLt, hx.weight, hx.seq, hy.weight, hy.seq]
  rw [minStep, minStep, hkey]

theorem foldl_minStep_congr {t1 t2 : Vector Node 511} {xs : List NodeIx} {x : NodeIx}
    (h : ∀ n ∈ x :: xs, NodeAgrees (nodeGet t1 n) (nodeGet t2 n)) :
    xs.foldl (minStep t2) x = xs.foldl (minStep t1) x := by
  induction xs generalizing x with
  | nil => rfl
  | cons y ys ih =>
    obtain ⟨hx, hy, hys⟩ := by simpa only [List.forall_mem_cons] using h
    rw [List.foldl_cons, List.foldl_cons, minStep_congr hx hy]
    refine ih (List.forall_mem_cons.2 ⟨?_, hys⟩)
    obtain heq | heq := minStep_eq_or t1 x y <;> rw [heq] <;> assumption

theorem extractMin_congr {t1 t2 : Vector Node 511} {q : List NodeIx}
    (h : ∀ n ∈ q, NodeAgrees (nodeGet t1 n) (nodeGet t2 n)) : extractMin t2 q = extractMin t1 q := by
  cases q with
  | nil => rfl
  | cons x xs => rw [extractMin, extractMin, foldl_minStep_congr h]

theorem extractTwo_congr {t1 t2 : Vector Node 511} {q : List NodeIx}
    (h : ∀ n ∈ q, NodeAgrees (nodeGet t1 n) (nodeGet t2 n)) : extractTwo t2 q = extractTwo t1 q := by
  rw [extractTwo, extractTwo, extractMin_congr h]
  rcases hmin : extractMin t1 q with _ | ⟨r, q1⟩
  · rfl
  · obtain ⟨-, rfl⟩ := extractMin_some hmin
    simp only
    rw [extractMin_congr fun n hn => h n (List.mem_of_mem_erase hn)]

/-! ## Two runs side by side -/

/-- What a run of BUILD between its first and its last event goes by is the same in s1 and s2: HIST, QUEUE, NEXT_SEQ,
and the nodes below NEXT_SEQ (R170, R172, R174). -/
structure SameForest (s1 s2 : State) : Prop where
  hist : s2.hist = s1.hist
  queue : s2.queue = s1.queue
  nextSeq : s2.nextSeq = s1.nextSeq
  forest : Forest s1.node s1.queue s1.nextSeq.toNat
  nodes : NodesAgree s1.node s2.node s1.nextSeq.toNat

/-- What BUILD shows of itself is the same in s1 and s2 (R180). -/
structure SameTable (s1 s2 : State) : Prop where
  codes : SameCodes s1 s2
  busy : s2.busy = s1.busy
  seq : s2.seq = s1.seq

/-- Two runs of BUILD after their first events: both have ended with the same table, or both are at the same point after
the same choices (R180). -/
def SameBuild (s1 s2 : State) : Prop :=
  SameTable s1 s2 ∧
    (s1.busy = false ∨ ((s1.seq = .build .merge ∨ s1.seq = .build .flatten) ∧ SameForest s1 s2))

section

variable {s1 s2 t1 t2 : State}

theorem sameForest_makeLeaves (hhist : s2.hist = s1.hist) (hpos : 0 < (present s1.hist).length) :
    SameForest (makeLeaves (present s1.hist) (clearCodes s1)) (makeLeaves (present s2.hist) (clearCodes s2)) := by
  have hleaf2 {n : NodeIx} {b : Byte} (hn : (present s2.hist)[n.toNat]? = some b) := isLeafOf_makeLeaves hn
  rw [hhist] at hleaf2 ⊢
  refine ⟨hhist, rfl, rfl, forest_makeLeaves hpos, fun n hn => ?_⟩
  rw [toNat_nextSeq_makeLeaves] at hn
  obtain ⟨hweight, hseq, hleaf, hsym⟩ := isLeafOf_makeLeaves (List.getElem?_eq_getElem hn)
  obtain ⟨hweight', hseq', hleaf', hsym'⟩ := hleaf2 (List.getElem?_eq_getElem hn)
  rw [BitVec.ofNat_toNat, BitVec.setWidth_eq] at *
  have hinner : (nodeGet (makeLeaves (present s1.hist) (clearCodes s1)).node n).leaf ≠ false := by simp [hleaf]
  exact ⟨hweight'.trans hweight.symm, hseq'.trans hseq.symm, hleaf'.trans hleaf.symm,
    fun _ => hsym'.trans hsym.symm, fun h => absurd h hinner, fun h => absurd h hinner⟩

theorem sameBuild_buildStart (hbusy : s2.busy = s1.busy) (hhist : s2.hist = s1.hist) :
    SameBuild (buildStart s1) (buildStart s2) := by
  have hpresent : present s2.hist = present s1.hist := congrArg present hhist
  match h : present s1.hist with
  | [] =>
    rw [buildStart_of_none h, buildStart_of_none (hpresent.trans h)]
    exact ⟨⟨⟨rfl, rfl, rfl⟩, rfl, rfl⟩, .inl rfl⟩
  | [b] =>
    rw [buildStart_of_one h, buildStart_of_one (hpresent.trans h)]
    exact ⟨⟨⟨rfl, rfl, rfl⟩, rfl, rfl⟩, .inl rfl⟩
  | a :: b :: bs =>
    have htwo : 2 ≤ (present s1.hist).length := by simp [h]
    obtain ⟨hhist', hqueue, hnext, hforest, hnodes⟩ := sameForest_makeLeaves hhist (Nat.zero_lt_of_lt htwo)
    rw [buildStart_of_many htwo, buildStart_of_many (hpresent ▸ htwo)]
    exact ⟨⟨⟨rfl, rfl, rfl⟩, hbusy, rfl⟩, .inr ⟨.inl rfl, hhist', hqueue, hnext, hforest, hnodes⟩⟩

/-- Both runs join the same two nodes (R173, R174). -/
theorem SameForest.mergeInto (h : SameForest s1 s2) {r l : NodeIx} {q : List NodeIx}
    (htwo : extractTwo s1.node s1.queue = some (r, l, q)) (hroom : s1.nextSeq.toNat < 511) :
    SameForest (mergeInto r l q s1) (mergeInto r l q s2) := by
  obtain ⟨hhist, hqueue, hnext, hforest, hnodes⟩ := h
  obtain ⟨hr, hl, -⟩ := hforest.extracted_lt htwo
  refine ⟨hhist, congrArg (q ++ [·]) hnext, congrArg (· + 1#9) hnext, hforest.mergeInto htwo hroom, fun n hn => ?_⟩
  obtain rfl | hlt := eq_or_lt_of_lt_nextSeq_mergeInto hroom hn
  · have hself := nodeGet_mergeInto_self (s := s2) (r := r) (l := l) (q := q) (hnext ▸ hroom)
    rw [hnext] at hself
    rw [nodeGet_mergeInto_self hroom, hself]
    exact ⟨congrArg₂ (· + ·) (hnodes l hl).weight (hnodes r hr).weight, rfl, rfl, nofun, fun _ => rfl, fun _ => rfl⟩
  · rw [nodeGet_mergeInto_lt hlt, nodeGet_mergeInto_lt (hnext ▸ hlt)]
    exact hnodes n hlt

theorem SameForest.extractTwo_eq (h : SameForest s1 s2) :
    extractTwo s2.node s2.queue = extractTwo s1.node s1.queue := by
  rw [h.queue]
  exact extractTwo_congr fun n hn => h.nodes n (h.forest.live n hn)

theorem SameForest.codePaths_eq (h : SameForest s1 s2) : codePaths s2 = codePaths s1 := by
  have hroot : rootOf s2 = rootOf s1 := congrArg (·.headD 0#9) h.queue
  rw [codePaths, codePaths, hroot]
  exact leafPaths_congr h.forest.below h.nodes _ h.forest.root_lt

theorem sameCodes_writePaths (ps : List LeafPath) (h : SameCodes s1 s2) :
    SameCodes (writePaths ps s1) (writePaths ps s2) := by
  induction ps generalizing s1 s2 with
  | nil => exact h
  | cons x xs ih =>
    obtain ⟨hlen, hval, hnum⟩ := h
    exact ih ⟨congrArg (tabSet · x.sym _) hlen, congrArg (tabSet · x.sym _) hval, hnum⟩

theorem sameBuild_mergeEvent (htable : SameTable s1 s2) (hseq : s1.seq = .build .merge) (hsame : SameForest s1 s2)
    (h1 : mergeEvent s1 = .next t1) (h2 : mergeEvent s2 = .next t2) : SameBuild t1 t2 := by
  obtain ⟨hcodes, hbusy, hseq'⟩ := htable
  obtain ⟨hnone, heq⟩ | ⟨r, l, q, htwo, hroom, heq⟩ | ⟨-, -, -, -, -, heq⟩ := mergeEvent_cases s1 <;>
    rw [heq] at h1 <;> cases h1
  · rw [mergeEvent, hsame.extractTwo_eq, hnone] at h2
    cases h2
    obtain ⟨hhist, hqueue, hnext, hforest, hnodes⟩ := hsame
    exact ⟨⟨hcodes, hbusy, rfl⟩, .inr ⟨.inr rfl, hhist, hqueue, hnext, hforest, hnodes⟩⟩
  · rw [mergeEvent_of_two (hsame.extractTwo_eq.trans htwo) (hsame.nextSeq ▸ hroom)] at h2
    cases h2
    exact ⟨⟨hcodes, hbusy, hseq'⟩, .inr ⟨.inl hseq, hsame.mergeInto htwo hroom⟩⟩

theorem sameBuild_flattenTree (hcodes : SameCodes s1 s2) (hsame : SameForest s1 s2) :
    SameBuild (flattenTree s1) (flattenTree s2) := by
  cases h : tooLong (codePaths s1) with
  | some b =>
    rw [flattenTree_of_tooLong h, flattenTree_of_tooLong (hsame.codePaths_eq ▸ h)]
    exact ⟨⟨⟨rfl, rfl, rfl⟩, rfl, rfl⟩, .inl rfl⟩
  | none =>
    have hshort := (tooLong_eq_none_iff _).1 h
    obtain ⟨hlen, hval, -⟩ := sameCodes_writePaths (codePaths s1) hcodes
    rw [flattenTree_of_short hshort, flattenTree_of_short (hsame.codePaths_eq ▸ hshort), hsame.codePaths_eq,
      hsame.hist]
    exact ⟨⟨⟨hlen, hval, rfl⟩, rfl, rfl⟩, .inl rfl⟩

theorem engineStep_build {s : State} {p : BuildPt} (hbusy : s.busy = true) (hseq : s.seq = .build p) :
    engineStep s = buildEvent p s :=
  (engineStep_running hbusy (congrArg runningOf hseq)).trans (exec_build_running hbusy hseq)

/-- After their first events two runs stay side by side: by the point of BUILD, or because both have ended. -/
theorem sameBuild_engineStep (h : SameBuild s1 s2) (h1 : engineStep s1 = .next t1) (h2 : engineStep s2 = .next t2) :
    SameBuild t1 t2 := by
  obtain ⟨htable, hrun⟩ := h
  cases hbusy : s1.busy with
  | false =>
    rw [engineStep_idle hbusy] at h1
    rw [engineStep_idle (htable.busy.trans hbusy)] at h2
    cases h1
    cases h2
    exact ⟨htable, .inl hbusy⟩
  | true =>
    have hbusy' := htable.busy.trans hbusy
    obtain ⟨hseq, hsame⟩ := hrun.resolve_left (by simp [hbusy])
    obtain hseq | hseq := hseq <;> rw [engineStep_build hbusy hseq] at h1 <;>
      rw [engineStep_build hbusy' (htable.seq.trans hseq)] at h2
    · exact sameBuild_mergeEvent htable hseq hsame h1 h2
    · cases h1
      cases h2
      exact sameBuild_flattenTree htable.codes hsame

theorem exists_engineStep_of_engineRun_succ {n : Nat} {s t : State} (h : engineRun (n + 1) s = .next t) :
    ∃ u, engineStep s = .next u ∧ engineRun n u = .next t := by
  cases hstep : engineStep s with
  | next u => exact ⟨u, rfl, (engineRun_succ hstep n).symm.trans h⟩
  | fault r => simp [engineRun, hstep] at h
  | refused r => simp [engineRun, hstep] at h

theorem sameBuild_engineRun {n : Nat} (h : SameBuild s1 s2) (h1 : engineRun n s1 = .next t1)
    (h2 : engineRun n s2 = .next t2) : SameBuild t1 t2 := by
  induction n generalizing s1 s2 with
  | zero =>
    cases h1
    cases h2
    exact h
  | succ n ih =>
    obtain ⟨u1, hstep1, hrun1⟩ := exists_engineStep_of_engineRun_succ h1
    obtain ⟨u2, hstep2, hrun2⟩ := exists_engineStep_of_engineRun_succ h2
    exact ih (sameBuild_engineStep h hstep1 hstep2) hrun1 hrun2

end

/-- Settles O23: the first events make the same leaves, and every later event keeps the runs side by side, by induction
on the number of events. -/
theorem buildDependsOnlyOnHist : Obligations.BuildDependsOnlyOnHist := by
  intro s1 s2 t1 t2 n hbusy1 hbusy2 hseq1 hseq2 hhist hrun1 hrun2
  rw [engineRun_succ (engineStep_build hbusy1 hseq1)] at hrun1
  rw [engineRun_succ (engineStep_build hbusy2 hseq2)] at hrun2
  have hstart := sameBuild_buildStart (hbusy2.trans hbusy1.symm) hhist.symm
  obtain ⟨⟨⟨hlen, hval, hnum⟩, hbusy, hseq⟩, -⟩ := sameBuild_engineRun hstart hrun1 hrun2
  exact ⟨hlen.symm, hval.symm, hnum.symm, hbusy.symm, hseq.symm⟩

end Sys2Proof.Machine

/-! PROOFS. A whole BUILD (spec/43_build.md R170, R176, R178, R179, spec/70_reset_and_hazards.md R280): k leaves, k - 1
merges, and a complete code of the k symbols, PrefixFree, or the fault of a leaf too deep. -/

namespace Sys2Proof.Machine

open Sys2Proof

/-! ## Complete codes -/

/-- The paths of the leaves of a tree in which every inner node has two children (R174, R175). -/
inductive CompletePaths : List LeafPath → Prop where
  | leaf (sym : Byte) : CompletePaths [{ sym := sym, depth := 0, path := 0 }]
  | join {ps qs : List LeafPath} : CompletePaths ps → CompletePaths qs →
      CompletePaths (ps.map (LeafPath.up 0) ++ qs.map (LeafPath.up 1))

theorem CompletePaths.length_pos {ps : List LeafPath} (h : CompletePaths ps) : 0 < ps.length := by
  induction h with
  | leaf sym => exact Nat.one_pos
  | join _ _ ihp _ =>
    rw [List.length_append, List.length_map]
    exact Nat.add_pos_left ihp _

/-- Each step down from the root passes by a subtree with a leaf of its own, so a code of k symbols has no codeword of k
bits (R178). -/
theorem CompletePaths.depth_lt_length {ps : List LeafPath} (h : CompletePaths ps) : ∀ x ∈ ps, x.depth < ps.length := by
  induction h with
  | leaf sym => simp
  | join hp hq ihp ihq =>
    have hpos := hp.length_pos
    have hqos := hq.length_pos
    simp only [List.mem_append, mem_map_up_iff, List.length_append, List.length_map]
    rintro x (⟨y, hy, -, hdepth, -⟩ | ⟨y, hy, -, hdepth, -⟩)
    · have hlt := ihp y hy
      omega
    · have hlt := ihq y hy
      omega

/-- Under an inner node no leaf is without bits (R175). -/
theorem CompletePaths.depth_pos {ps : List LeafPath} (h : CompletePaths ps) (htwo : 2 ≤ ps.length) :
    ∀ x ∈ ps, 0 < x.depth := by
  cases h with
  | leaf sym => exact absurd htwo (by simp)
  | join hp hq =>
    simp only [List.mem_append, mem_map_up_iff]
    rintro x (⟨y, -, -, hdepth, -⟩ | ⟨y, -, -, hdepth, -⟩) <;> exact hdepth ▸ Nat.succ_pos _

theorem sum_two_pow_map_up (ps : List LeafPath) (bit d : Nat) :
    ((ps.map (LeafPath.up bit)).map (fun x => 2 ^ (d + 1 - x.depth))).sum =
      (ps.map (fun x => 2 ^ (d - x.depth))).sum := by
  simp [LeafPath.up, Function.comp_def]

/-- Kraft's sum of a complete code is 1, scaled by 2^d (R179). -/
theorem CompletePaths.sum_two_pow {ps : List LeafPath} (h : CompletePaths ps) {d : Nat} (hd : ∀ x ∈ ps, x.depth ≤ d) :
    (ps.map (fun x => 2 ^ (d - x.depth))).sum = 2 ^ d := by
  induction h generalizing d with
  | leaf sym => simp
  | @join ps qs hp hq ihp ihq =>
    simp only [List.forall_mem_append, List.forall_mem_map, LeafPath.up] at hd
    obtain ⟨hdp, hdq⟩ := hd
    cases d with
    | zero =>
      obtain ⟨x, hx⟩ := List.exists_mem_of_length_pos hp.length_pos
      exact absurd (hdp x hx) (Nat.not_succ_le_zero _)
    | succ d =>
      rw [List.map_append, List.sum_append, sum_two_pow_map_up, sum_two_pow_map_up,
        ihp fun x hx => Nat.le_of_succ_le_succ (hdp x hx), ihq fun x hx => Nat.le_of_succ_le_succ (hdq x hx),
        Nat.pow_succ, Nat.mul_two]

section

variable {t : Vector Node 511} {m f : Nat} {n : NodeIx}

/-- In a forest the descent comes to its leaves before its bound (log entry 14). -/
theorem completePaths_leafPaths (h : ChildrenBelow t m) (hn : n.toNat < m) (hf : n.toNat < f) :
    CompletePaths (leafPaths t f n) := by
  induction f generalizing n with
  | zero => exact absurd hf (Nat.not_lt_zero _)
  | succ f ih =>
    cases hleaf : (nodeGet t n).leaf
    case true =>
      rw [leafPaths_of_leaf hleaf]
      exact .leaf _
    case false =>
      obtain ⟨hleft, hright⟩ := h n hn hleaf
      rw [leafPaths_of_inner hleaf]
      exact .join (ih (hleft.trans hn) (by omega)) (ih (hright.trans hn) (by omega))

theorem leafPaths_succ (h : ChildrenBelow t m) (hn : n.toNat < m) (hf : n.toNat < f) :
    leafPaths t (f + 1) n = leafPaths t f n := by
  induction f generalizing n with
  | zero => exact absurd hf (Nat.not_lt_zero _)
  | succ f ih =>
    cases hleaf : (nodeGet t n).leaf
    case true => rw [leafPaths_of_leaf hleaf, leafPaths_of_leaf hleaf]
    case false =>
      obtain ⟨hleft, hright⟩ := h n hn hleaf
      rw [leafPaths_of_inner hleaf (f + 1), leafPaths_of_inner hleaf f, ih (hleft.trans hn) (by omega),
        ih (hright.trans hn) (by omega)]

end

/-! ## The symbols under the nodes of QUEUE -/

/-- The symbols of the leaves under a node (R175). -/
def leafSyms (t : Vector Node 511) (n : NodeIx) : List Byte := (leafPaths t 511 n).map LeafPath.sym

theorem leafSyms_of_leaf {t : Vector Node 511} {n : NodeIx} (h : (nodeGet t n).leaf = true) :
    leafSyms t n = [(nodeGet t n).sym] := by
  rw [leafSyms, leafPaths_of_leaf h, List.map_singleton]

section

variable {r l : NodeIx} {q : List NodeIx} {s : State}

/-- A Merge writes no node made before (R174). -/
theorem leafPaths_mergeInto_lt (h : Forest s.node s.queue s.nextSeq.toNat) (f : Nat) {n : NodeIx}
    (hn : n.toNat < s.nextSeq.toNat) : leafPaths (mergeInto r l q s).node f n = leafPaths s.node f n := by
  refine leafPaths_congr h.below (fun n hn => ?_) f hn
  rw [nodeGet_mergeInto_lt hn]
  exact ⟨rfl, rfl, rfl, fun _ => rfl, fun _ => rfl, fun _ => rfl⟩

/-- Under the new node are the leaves of the two it joins (R174, R175). -/
theorem leafSyms_mergeInto_self (h : Forest s.node s.queue s.nextSeq.toNat) (hroom : s.nextSeq.toNat < 511)
    (hr : r.toNat < s.nextSeq.toNat) (hl : l.toNat < s.nextSeq.toNat) :
    leafSyms (mergeInto r l q s).node s.nextSeq = leafSyms s.node l ++ leafSyms s.node r := by
  have hnew := nodeGet_mergeInto_self (r := r) (l := l) (q := q) hroom
  have hinner : (nodeGet (mergeInto r l q s).node s.nextSeq).leaf = false := by rw [hnew]
  rw [leafSyms, leafPaths_of_inner hinner, hnew, leafPaths_mergeInto_lt h _ hl, leafPaths_mergeInto_lt h _ hr,
    leafSyms, leafSyms, leafPaths_succ h.below hl (f := 510) (by omega),
    leafPaths_succ h.below hr (f := 510) (by omega)]
  simp [LeafPath.up, Function.comp_def]

end

/-- BUILD's loop, for the symbols ss: each stands at one leaf under one node of QUEUE, and each merge done took one node
off QUEUE (R172, R174). -/
structure Merging (ss : List Byte) (s : State) : Prop where
  forest : Forest s.node s.queue s.nextSeq.toNat
  syms : (s.queue.flatMap (leafSyms s.node)).Perm ss
  nodes : s.queue.length + s.nextSeq.toNat = 2 * ss.length
  merges : s.queue.length + s.progress.toNat = ss.length

/-- MakeLeaves for S: node i has the one leaf of the i-th symbol (R172). -/
theorem flatMap_leafSyms_makeLeaves (s : State) :
    (makeLeaves (present s.hist) (clearCodes s)).queue.flatMap
      (leafSyms (makeLeaves (present s.hist) (clearCodes s)).node) = present s.hist := by
  have hone (i : Nat) (hi : i ∈ List.range (present s.hist).length) :
      leafSyms (makeLeaves (present s.hist) (clearCodes s)).node (BitVec.ofNat 9 i) =
        [(present s.hist).getD i 0#8] := by
    rw [List.mem_range] at hi
    have hleaf := isLeafOf_makeLeaves (List.getElem?_eq_getElem hi)
    rw [leafSyms_of_leaf hleaf.leaf, hleaf.sym, List.getD_eq_getElem _ _ hi]
  show ((List.range (present s.hist).length).map (BitVec.ofNat 9)).flatMap _ = _
  rw [List.flatMap_map, List.flatMap_congr hone, ← List.map_eq_flatMap]
  exact List.ext_getElem (by simp) fun i _ hi => by simp [hi]

theorem merging_makeLeaves {s : State} (hprogress : s.progress = 0#32) (hpos : 0 < (present s.hist).length) :
    Merging (present s.hist) (makeLeaves (present s.hist) (clearCodes s)) := by
  refine ⟨forest_makeLeaves hpos, .of_eq (flatMap_leafSyms_makeLeaves s), ?_, ?_⟩
  · rw [toNat_nextSeq_makeLeaves]
    simp [makeLeaves, Nat.two_mul]
  · simp [makeLeaves, hprogress]

theorem Merging.merged {ss : List Byte} {s : State} (h : Merging ss s) {r l : NodeIx} {q : List NodeIx}
    (htwo : extractTwo s.node s.queue = some (r, l, q)) (hroom : s.nextSeq.toNat < 511)
    (hss : ss.length ≤ 256) : Merging ss (mergeInto r l q s) := by
  obtain ⟨hforest, hsyms, hnodes, hmerges⟩ := h
  obtain ⟨hr, hl, hq⟩ := hforest.extracted_lt htwo
  obtain ⟨hrmem, hlmem, hqueue, hlen⟩ := extractTwo_some htwo
  have hlen' : (mergeInto r l q s).queue.length = q.length + 1 := List.length_append
  have hprogress : (mergeInto r l q s).progress.toNat = s.progress.toNat + 1 := by
    show (s.progress + 1#32).toNat = _
    bv_omega
  refine ⟨hforest.mergeInto htwo hroom, ?_, ?_, ?_⟩
  · have hperm : s.queue.Perm (r :: l :: q) :=
      (List.perm_cons_erase hrmem).trans ((hqueue ▸ List.perm_cons_erase hlmem).cons r)
    have hold : q.flatMap (leafSyms (mergeInto r l q s).node) = q.flatMap (leafSyms s.node) :=
      List.flatMap_congr fun n hn => congrArg (List.map LeafPath.sym) (leafPaths_mergeInto_lt hforest _ (hq n hn))
    calc (mergeInto r l q s).queue.flatMap (leafSyms (mergeInto r l q s).node)
        = q.flatMap (leafSyms s.node) ++ (leafSyms s.node l ++ leafSyms s.node r) := by
          rw [← leafSyms_mergeInto_self (q := q) hforest hroom hr hl, ← hold]
          simp [mergeInto]
      _ |>.Perm (leafSyms s.node l ++ leafSyms s.node r ++ q.flatMap (leafSyms s.node)) := List.perm_append_comm
      _ |>.Perm ((r :: l :: q).flatMap (leafSyms s.node)) := by
          rw [List.flatMap_cons, List.flatMap_cons, ← List.append_assoc]
          exact List.perm_append_comm.append_right _
      _ |>.Perm (s.queue.flatMap (leafSyms s.node)) := (hperm.flatMap_right _).symm
      _ |>.Perm ss := hsyms
  · rw [hlen', toNat_nextSeq_mergeInto hroom]
    omega
  · rw [hlen', hprogress]
    omega

/-! ## The loop -/

/-- From n + 1 nodes in QUEUE, n merges and the loop's end are n + 1 events (R170, R174). -/
theorem engineRun_merges {ss : List Byte} (hss : ss.length ≤ 256) {n : Nat} {s : State} (hbusy : s.busy = true)
    (hseq : s.seq = .build .merge) (h : Merging ss s) (hlen : s.queue.length = n + 1) :
    ∃ t, engineRun (n + 1) s = .next t ∧ Merging ss t ∧ t.queue.length = 1 ∧
      t = { s with node := t.node, queue := t.queue, nextSeq := t.nextSeq, progress := t.progress,
                   seq := .build .flatten } := by
  induction n generalizing s with
  | zero =>
    refine ⟨goto (.build .flatten) s, ?_, ⟨h.forest, h.syms, h.nodes, h.merges⟩, hlen, rfl⟩
    exact engineRun_succ ((engineStep_build hbusy hseq).trans (mergeEvent_of_one hlen.le)) 0
  | succ n ih =>
    have hroom : s.nextSeq.toNat < 511 := by
      have hnodes := h.nodes
      omega
    obtain ⟨r, l, q, htwo, -⟩ := extractTwo_of_two_le (t := s.node) (q := s.queue) (by omega)
    obtain ⟨-, -, -, hrest⟩ := extractTwo_some htwo
    have hlen' : (mergeInto r l q s).queue.length = n + 1 := by
      rw [mergeInto, List.length_append, List.length_singleton]
      omega
    obtain ⟨t, hrun, hmerging, hone, ht⟩ := ih (s := mergeInto r l q s) hbusy hseq (h.merged htwo hroom hss) hlen'
    refine ⟨t, ?_, hmerging, hone, ht⟩
    rw [engineRun_succ ((engineStep_build hbusy hseq).trans (mergeEvent_of_two htwo hroom)), hrun]

/-! ## The table at the end -/

/-- The tree under the root is a code of the symbols of HIST: complete, each symbol at one leaf (R172, R175). -/
structure RootSpells (s : State) : Prop where
  complete : CompletePaths (codePaths s)
  syms : ((codePaths s).map LeafPath.sym).Perm (present s.hist)

theorem Merging.rootSpells {s : State} (h : Merging (present s.hist) s) (hone : s.queue.length = 1) :
    RootSpells s := by
  obtain ⟨hforest, hsyms, -, -⟩ := h
  obtain ⟨root, hroot⟩ := List.length_eq_one_iff.1 hone
  have hlt := hforest.live root (hroot ▸ List.mem_cons_self)
  rw [hroot, List.flatMap_singleton, leafSyms, ← codePaths_of_root hroot] at hsyms
  refine ⟨?_, hsyms⟩
  rw [codePaths_of_root hroot]
  exact completePaths_leafPaths hforest.below hlt (by omega)

section

variable {s : State}

theorem RootSpells.length_eq (h : RootSpells s) : (codePaths s).length = (present s.hist).length := by
  rw [← h.syms.length_eq, List.length_map]

/-- With 32 symbols or fewer no codeword is too long (R178). -/
theorem RootSpells.length_of_tooLong (h : RootSpells s) {b : Byte} (hlong : tooLong (codePaths s) = some b) :
    33 ≤ (present s.hist).length := by
  by_contra hfew
  have hshort : tooLong (codePaths s) = none := (tooLong_eq_none_iff _).2 fun x hx => by
    have hlt := h.complete.depth_lt_length x hx
    have hlen := h.length_eq
    omega
  exact Option.some_ne_none b (hlong.symm.trans hshort)

theorem RootSpells.toNat_codeLen (h : RootSpells s) (hshort : ∀ x ∈ codePaths s, x.depth ≤ 31) {x : LeafPath}
    (hx : x ∈ codePaths s) : (tabGet (writePaths (codePaths s) s).codeLen x.sym).toNat = x.depth := by
  have hdistinct : (codePaths s).Pairwise (fun x y => x.sym ≠ y.sym) :=
    List.pairwise_map.1 (h.syms.nodup_iff.2 (nodup_of_pairwise_lt (pairwise_lt_present s.hist)))
  exact (toNat_writePaths hdistinct hshort (fits_of_mem_leafPaths _ _ _) hx s).1

/-- Over the clear table, exactly the symbols of HIST get a codeword (R170). -/
theorem RootSpells.codeLen_ne_zero_iff (h : RootSpells s) (hshort : ∀ x ∈ codePaths s, x.depth ≤ 31)
    (htwo : 2 ≤ (present s.hist).length) (hclear : s.codeLen = Vector.replicate 256 0#5) (b : Byte) :
    tabGet (writePaths (codePaths s) s).codeLen b ≠ 0#5 ↔ tabGet s.hist b ≠ 0#32 := by
  rw [← mem_present, ← h.syms.mem_iff, List.mem_map]
  constructor
  · intro hb
    by_contra hnone
    push Not at hnone
    refine hb ((writePaths_of_not_mem hnone s).1.trans ?_)
    rw [hclear, tabGet_replicate]
  · rintro ⟨x, hx, rfl⟩ hzero
    have hpos := h.complete.depth_pos (h.length_eq ▸ htwo) x hx
    rw [← h.toNat_codeLen hshort hx, hzero] at hpos
    exact hpos.false

/-- Kraft's sum over the symbols of HIST (R179). -/
theorem RootSpells.sum_two_pow (h : RootSpells s) (hshort : ∀ x ∈ codePaths s, x.depth ≤ 31) :
    ((present s.hist).map
      (fun b => 2 ^ (31 - (tabGet (writePaths (codePaths s) s).codeLen b).toNat))).sum = 2 ^ 31 := by
  rw [← (h.syms.map _).sum_eq, List.map_map, ← h.complete.sum_two_pow hshort]
  refine congrArg List.sum (List.map_congr_left fun x hx => ?_)
  rw [Function.comp_apply, h.toNat_codeLen hshort hx]

end

/-- A sum over the code table is one over the symbols that have a codeword. -/
theorem sum_codeLen {h : Vector Word 256} {len : Vector (BitVec 5) 256}
    (hsyms : ∀ b : Byte, tabGet len b ≠ 0#5 ↔ tabGet h b ≠ 0#32) (g : BitVec 5 → Nat) :
    ((List.range 256).map (fun i => if tabGet len (BitVec.ofNat 8 i) = 0#5 then 0
      else g (tabGet len (BitVec.ofNat 8 i)))).sum = ((present h).map (fun b => g (tabGet len b))).sum := by
  have hfilter : (fun b => tabGet h b != 0#32) = fun b => decide (¬ tabGet len b = 0#5) := by
    funext b
    rw [Bool.eq_iff_iff, bne_iff_ne, decide_eq_true_iff]
    exact (hsyms b).symm
  rw [List.sum_map_ite, List.map_const', List.sum_replicate_nat, Nat.mul_zero, Nat.zero_add, present, hfilter,
    List.filter_map, List.map_map]
  rfl

/-! ## One symbol or none -/

/-- With at most one symbol, BUILD gives the one codeword to that symbol, or to 0x00 (R176). -/
theorem buildStart_of_le_one {s : State} (h : (present s.hist).length ≤ 1) :
    ∃ b, buildStart s = complete .built (singleCode b (clearCodes s)) ∧
      ∀ c : Byte, c = b ↔ (tabGet s.hist c ≠ 0#32 ∨ ((present s.hist).length = 0 ∧ c = 0#8)) := by
  match hss : present s.hist with
  | [] => exact ⟨0#8, buildStart_of_none hss, fun c => by simp [← mem_present, hss]⟩
  | [b] => exact ⟨b, buildStart_of_one hss, fun c => by simp [← mem_present, hss]⟩
  | a :: b :: bs => simp [hss] at h

theorem tabGet_singleCode_ne_zero_iff (b c : Byte) (s : State) :
    tabGet (singleCode b (clearCodes s)).codeLen c ≠ 0#5 ↔ c = b := by
  show tabGet (tabSet (Vector.replicate 256 0#5) b 1#5) c ≠ 0#5 ↔ c = b
  by_cases h : b = c
  · simp [h]
  · simp [tabGet_tabSet_ne _ _ h, Ne.symm h]

theorem prefixFree_singleCode (b : Byte) (s : State) :
    PrefixFree (singleCode b (clearCodes s)).codeLen (singleCode b (clearCodes s)).codeVal := by
  intro c d hne hc hd
  rw [tabGet_singleCode_ne_zero_iff] at hc hd
  exact absurd (hc.trans hd.symm) hne

/-- One event makes the one codeword (R176). -/
theorem engineRun_build_of_le_one {s : State} (hbusy : s.busy = true) (hseq : s.seq = .build .start)
    (h : (present s.hist).length ≤ 1) : ∃ b, engineRun 1 s = .next (complete .built (singleCode b (clearCodes s))) ∧
      ∀ c : Byte, c = b ↔ (tabGet s.hist c ≠ 0#32 ∨ ((present s.hist).length = 0 ∧ c = 0#8)) := by
  obtain ⟨b, hstart, hsym⟩ := buildStart_of_le_one h
  exact ⟨b, hstart ▸ engineRun_succ (engineStep_build hbusy hseq) 0, hsym⟩

/-- The first event, k - 1 merges and the end of the loop lead to the last event (R170, R280). -/
theorem engineRun_build_of_two_le {s : State} (hbusy : s.busy = true) (hseq : s.seq = .build .start)
    (hprogress : s.progress = 0#32) (h : 2 ≤ (present s.hist).length) :
    ∃ t, engineRun ((present s.hist).length + 2) s = .next (flattenTree t) ∧ RootSpells t ∧
      t.progress.toNat = (present s.hist).length - 1 ∧
      t = { clearCodes s with
        node := t.node, queue := t.queue, nextSeq := t.nextSeq, progress := t.progress, seq := .build .flatten } := by
  obtain ⟨n, hn⟩ : ∃ n, (present s.hist).length = n + 1 := Nat.exists_eq_add_one.2 (Nat.zero_lt_of_lt h)
  have hlen : (makeLeaves (present s.hist) (clearCodes s)).queue.length = n + 1 := by simp [makeLeaves, hn]
  obtain ⟨hforest, hsyms, hnodes, hmerges⟩ := merging_makeLeaves hprogress (Nat.zero_lt_of_lt h)
  obtain ⟨t, hrun, hmerging, hone, ht⟩ :=
    engineRun_merges (s := goto (.build .merge) (makeLeaves (present s.hist) (clearCodes s)))
      (present_length_le s.hist) hbusy rfl ⟨hforest, hsyms, hnodes, hmerges⟩ hlen
  have hhist : t.hist = s.hist := by rw [ht]; rfl
  have hcount := hmerging.merges
  rw [← hhist] at hmerging
  refine ⟨t, ?_, hmerging.rootSpells hone, by omega, ht⟩
  have hlast : engineRun (n + 1 + 1) (goto (.build .merge) (makeLeaves (present s.hist) (clearCodes s))) =
      .next (flattenTree t) := by
    rw [engineRun_add hrun]
    exact engineRun_succ (engineStep_build (p := .flatten) (by rw [ht]; exact hbusy) (by rw [ht])) 0
  have hfirst : engineStep s = .next (goto (.build .merge) (makeLeaves (present s.hist) (clearCodes s))) := by
    rw [engineStep_build hbusy hseq, ← buildStart_of_many h]
    rfl
  rw [engineRun_succ hfirst, hn, hlast]

/-- Settles O22. With at most one symbol, BUILD is one event; with k symbols it is the first event, k - 1 merges, the
end of the loop and the last event, and the tree under the root is then a complete code of the symbols. -/
theorem buildRunGivesCompleteCode : Obligations.BuildRunGivesCompleteCode := by
  intro s k hbusy hseq hprogress hk
  obtain rfl := hk.trans (length_present s.hist).symm
  have hle := present_length_le s.hist
  by_cases htwo : 2 ≤ (present s.hist).length
  · obtain ⟨t, hrun, hspells, hcount, ht⟩ := engineRun_build_of_two_le hbusy hseq hprogress htwo
    refine ⟨_, _, by omega, hrun, ?_⟩
    have hclear : t.codeLen = Vector.replicate 256 0#5 := by rw [ht]; rfl
    have hhist : t.hist = s.hist := by rw [ht]; rfl
    have htotal : t.total = s.total := by rw [ht]; rfl
    have hphase : t.phase = s.phase := by rw [ht]; rfl
    have hfault : t.fault = s.fault := by rw [ht]; rfl
    have hfree := prefixFree_flattenTree hclear
    rw [← hhist] at htwo ⊢
    cases hlong : tooLong (codePaths t) with
    | some b =>
      rw [flattenTree_of_tooLong hlong]
      exact ⟨rfl, hhist ▸ hcount, rfl, htotal,
        .inr ⟨hphase, rfl, rfl, hspells.length_of_tooLong hlong, rfl, rfl, rfl⟩⟩
    | none =>
      have hshort := (tooLong_eq_none_iff _).1 hlong
      have hcodes := hspells.codeLen_ne_zero_iff hshort htwo hclear
      have hsum := (sum_codeLen hcodes fun len => 2 ^ (31 - len.toNat)).trans (hspells.sum_two_pow hshort)
      rw [flattenTree_of_short hshort, writePaths_frame] at hfree ⊢
      refine ⟨rfl, hhist ▸ hcount, rfl, htotal,
        .inl ⟨rfl, hfault, hfree, fun b => (hcodes b).trans ?_, ?_, fun _ => hsum⟩⟩
      · have hne : (present t.hist).length ≠ 0 := by omega
        simp [hne]
      · rw [max_eq_left (Nat.le_of_succ_le htwo)]
        exact toNat_ofNat_length_present t.hist
  · obtain ⟨b, hrun, hsym⟩ := engineRun_build_of_le_one hbusy hseq (Nat.le_of_not_lt htwo)
    refine ⟨1, _, by omega, hrun, rfl, ?_, rfl, rfl, .inl ⟨rfl, rfl, prefixFree_singleCode b s,
      fun c => (tabGet_singleCode_ne_zero_iff b c s).trans (hsym c), ?_, fun h => absurd h htwo⟩⟩
    · rw [complete_progress]
      show s.progress.toNat = _
      rw [hprogress]
      simp only [BitVec.toNat_zero]
      omega
    · rw [max_eq_right (Nat.le_of_not_lt htwo)]
      rfl

end Sys2Proof.Machine

/-! PROOFS. The points of the two header commands (spec/44_header.md R190 to R198): the order, values and widths of the
fields WRITE_HEADER writes, and the checks of READ_HEADER. -/

namespace Sys2Proof.Machine

open Sys2Proof

/-! ## The points of WRITE_HEADER -/

theorem exec_afterField {s : State} {f : WField} (hbusy : s.busy = true)
    (hseq : s.seq = .writeHeader (.bits f 0)) : exec .writeHeader s = .next (afterField f s) :=
  exec_writeHeader_running hbusy hseq

/-- The head of the loop over symbols, at a symbol (R190, R192). -/
theorem exec_scanSymbol {s : State} {b : Byte} (hbusy : s.busy = true)
    (hseq : s.seq = .writeHeader (.scan b.toNat)) :
    exec .writeHeader s = .next (if tabGet s.codeLen b = 0#5 then goto (.writeHeader (.scan (b.toNat + 1))) s
      else startField (.sym b) s) := by
  rw [exec_writeHeader_running hbusy hseq, writeEvent, scanSymbol, if_pos b.isLt, BitVec.ofNat_toNat,
    BitVec.setWidth_eq]

/-- The bytes of MAGIC as numbers (R92). -/
theorem toNat_magicByte : ∀ i, i < 8 →
    (magicByte i).toNat = ([0x48, 0x55, 0x46, 0x46, 0x4D, 0x41, 0x4E, 0x31] : List Nat).getD i 0 := by
  decide

/-- Settles O26: each point is afterField of its field, or the head of the loop; a value is its field, zero-extended. -/
theorem writeHeaderFieldOrder : Obligations.WriteHeaderFieldOrder := by
  intro s hbusy
  have hwiden {n : Nat} (hn : n ≤ 32) (x : BitVec n) : (x.setWidth 32).toNat = x.toNat :=
    BitVec.toNat_setWidth_of_le hn
  refine ⟨exec_writeHeader_running hbusy, fun i hi hseq => ?_, exec_afterField hbusy, exec_afterField hbusy,
    fun b hseq hzero => ?_, fun b hseq hcode => ?_, fun b => exec_afterField hbusy, fun b => exec_afterField hbusy,
    fun b => exec_afterField hbusy, exec_writeHeader_running hbusy, exec_afterField hbusy, fun i hi => ?_, ?_,
    fun b => ⟨hwiden (by decide) b, hwiden (by decide) (tabGet s.codeLen b), hwiden (by decide) (tabGet s.codeVal b)⟩,
    rfl⟩
  · rw [exec_afterField hbusy hseq, afterField, if_pos (by omega)]
    rfl
  · rw [exec_scanSymbol hbusy hseq, if_pos hzero]
    rfl
  · rw [exec_scanSymbol hbusy hseq, if_neg hcode]
    rfl
  · rw [fieldValue, hwiden (by decide), toNat_magicByte i hi]
  · rw [fieldValue, hwiden (by decide), BitVec.toNat_setWidth]

/-! ## The checks of READ_HEADER -/

/-- Eight bytes are compared, and the least index that differs is found (R196). -/
theorem magicMismatch_eq_some {m : List Byte} {k : Nat} (hm : m.length = 8) (hk : k < 8) (hne : m[k]? ≠ magic[k]?)
    (hleast : ∀ j, j < k → m[j]? = magic[j]?) : magicMismatch m = some k := by
  have hget {l : List Byte} (hl : l.length = 8) : l[k]? = some (l.getD k 0) := by
    rw [List.getD_eq_getElem _ _ (by omega), List.getElem?_eq_getElem (by omega)]
  refine List.find?_range_eq_some.2 ⟨?_, List.mem_range.2 hk, fun j hj => ?_⟩
  · rw [hget hm, hget rfl, Ne, Option.some.injEq] at hne
    exact bne_iff_ne.2 hne
  · have hsame : m.getD j 0 = magicByte j := by
      rw [magicByte, List.getD_eq_getElem?_getD, List.getD_eq_getElem?_getD, hleast j hj]
    simp only [hsame, bne_self_eq_false, Bool.not_false]

/-- After the last magic byte all eight are compared (R195, R196). -/
theorem exec_checkMagic {s : State} {m : List Byte} {v : Word} (hbusy : s.busy = true)
    (hseq : s.seq = .readHeader (.bits (.magic m) 0 v)) (hm : m.length = 7) :
    exec .readHeader s = .next (checkMagic (m ++ [BitVec.ofNat 8 v.toNat]) s) := by
  rw [exec_afterRead hbusy hseq, afterRead, if_neg (by omega), BitVec.ofNat_toNat]

/-- Settles O35: the comparison comes after the eighth byte, and finds the least index that differs. -/
theorem readHeaderMagicCheck : Obligations.ReadHeaderMagicCheck := by
  intro s m v hbusy
  refine ⟨exec_readHeader_running hbusy, fun hseq hmore => ?_, fun hseq hsame => ?_,
    fun k hseq hm hk hne hleast => ?_⟩
  · rw [exec_afterRead hbusy hseq, afterRead, if_pos (by omega), BitVec.ofNat_toNat]
    rfl
  · have hm : m.length = 7 := by
      have hlength := congrArg List.length hsame
      rw [List.length_append] at hlength
      exact Nat.succ.inj hlength
    have hmagic : m ++ [BitVec.ofNat 8 v.toNat] = magic := hsame
    have hnone : magicMismatch magic = none := by decide
    rw [exec_checkMagic hbusy hseq hm, checkMagic, hmagic, hnone]
    rfl
  · have hlength : (m ++ [BitVec.ofNat 8 v.toNat]).length = 8 := by rw [List.length_append, hm]; rfl
    rw [exec_checkMagic hbusy hseq hm, checkMagic, magicMismatch_eq_some hlength hk hne hleast]
    rfl

/-- The least entry before e that holds the codeword is found (R198). -/
theorem duplicateOf_eq_some {t : Vector DtabEntry 256} {e j : Byte} {len : BitVec 5} {val : BitVec 31}
    (hj : j.toNat < e.toNat) (hlen : (tabGet t j).len = len) (hval : (tabGet t j).val = val)
    (hleast : ∀ c : Byte, c.toNat < j.toNat → ¬ ((tabGet t c).len = len ∧ (tabGet t c).val = val)) :
    duplicateOf t e.toNat len val = some j.toNat := by
  have hbefore : duplicateOf t j.toNat len val = none := (duplicateOf_eq_none_iff t j len val).2 hleast
  refine List.find?_range_eq_some.2 ⟨?_, List.mem_range.2 hj, fun c hc => ?_⟩
  · simp [entryIs, hlen, hval]
  · simpa using List.find?_eq_none.1 hbefore c (List.mem_range.2 hc)

/-- Settles O36: a length of 0 is refused as soon as it is read, a codeword by the least entry that holds it. -/
theorem readHeaderEntryFaults : Obligations.ReadHeaderEntryFaults := by
  intro s e n sym v hbusy
  refine ⟨fun hseq hzero => ?_, fun l j hseq hj hlen hval hleast => ?_⟩
  · have hlen : v.setWidth 5 = 0#5 := BitVec.eq_of_toNat_eq ((BitVec.toNat_setWidth 5 v).trans hzero)
    rw [exec_afterRead hbusy hseq, afterRead, if_pos hlen, ← BitVec.ofNat_toNat]
    rfl
  · rw [BitVec.ofNat_toNat] at hval hleast
    rw [exec_afterRead hbusy hseq, afterRead, afterCode, duplicateOf_eq_some hj hlen hval hleast]
    rfl

end Sys2Proof.Machine

/-! PROOFS. What WRITE_HEADER and READ_HEADER leave unchanged (spec/44_header.md R190, R195; spec/40_control.md R113):
each event of theirs, and their acceptance. -/

namespace Sys2Proof.Machine

open Sys2Proof

/-! ## The frame of exec -/

/-- What exec of a command keeps, by its acceptance and by the events of the running command. -/
theorem exec_frame {i : Instr} {p : Phase} {W : State → State → Prop} {s t : State} (h : exec i s = .next t)
    (hoffer : W s (offer i s))
    (hevent : s.busy = true → runningOf s.seq = some i → CommandFrame i p s t ∧ W s t) :
    CommandFrame i p s t ∧ W s t := by
  by_cases hother : s.busy = false ∨ runningOf s.seq ≠ some i
  · rw [exec_eq_offer i s hother] at h
    cases h
    exact ⟨commandFrame_offer p hother, hoffer⟩
  · obtain ⟨hbusy, hrun⟩ : s.busy = true ∧ runningOf s.seq = some i := by simpa using hother
    exact hevent hbusy hrun

/-! ## WRITE_HEADER -/

/-- t differs from s at most in the control state, the output FIFO, the bit writer and PAYLOAD_COUNT, which may be
TOTAL: all that an acceptance or an event of WRITE_HEADER writes (R110, R190, R193). -/
def WriteHeaderWritesOnly (s t : State) : Prop :=
  (t.payloadCount = s.payloadCount ∨ t.payloadCount = s.total) ∧
  t = { s with
    cmdWord := t.cmdWord, busy := t.busy, fault := t.fault, cmdIgn := t.cmdIgn, phase := t.phase,
    faultCode := t.faultCode, faultInfo := t.faultInfo, intStatus := t.intStatus, progress := t.progress,
    seq := t.seq, outFifo := t.outFifo, bwBuf := t.bwBuf, bwCnt := t.bwCnt, payloadCount := t.payloadCount }

/-- A bit step that need not wait pushes a byte only where there is room (R141, R142). -/
theorem outKeptOrPushed_writeBit {s : State} (hfree : writeBlocked s = false) (b : Bool) :
    OutKeptOrPushed s (writeBit b s) := by
  by_cases hfull : s.bwCnt = 7#3
  · have hroom : s.outFifo.length < s.params.outDepth.toNat := by
      simpa [writeBlocked, hfull, outRoom_iff] using hfree
    rw [writeBit_of_full hfull]
    exact .inr ⟨_, rfl, hroom⟩
  · rw [writeBit_of_open hfull]
    exact .inl rfl

theorem afterField_frame {s : State} (f : WField) (hbusy : s.busy = true) :
    CommandFrame .writeHeader .headerWritten s (afterField f s) ∧ WriteHeaderWritesOnly s (afterField f s) := by
  have hkept : ControlKept s s := rfl
  cases f with
  | magic i =>
    rw [afterField]
    split <;> exact ⟨ControlKept.commandFrame rfl (.inl rfl) (.inl rfl), .inl rfl, rfl⟩
  | payload => exact ⟨hkept.commandFrame_complete hbusy (.inl rfl) (.inl rfl), .inl rfl, rfl⟩
  | numEntries | sym b | len b | val b =>
    exact ⟨ControlKept.commandFrame rfl (.inl rfl) (.inl rfl), .inl rfl, rfl⟩

theorem scanSymbol_frame (k : Nat) (s : State) :
    CommandFrame .writeHeader .headerWritten s (scanSymbol k s) ∧ WriteHeaderWritesOnly s (scanSymbol k s) := by
  unfold scanSymbol
  split
  · split <;> exact ⟨ControlKept.commandFrame rfl (.inl rfl) (.inl rfl), .inl rfl, rfl⟩
  · exact ⟨ControlKept.commandFrame rfl (.inl rfl) (.inl rfl), .inr rfl, rfl⟩

theorem writeEvent_frame {s : State} (p : WritePt) (hbusy : s.busy = true) :
    CommandFrame .writeHeader .headerWritten s (writeEvent p s) ∧ WriteHeaderWritesOnly s (writeEvent p s) := by
  match p with
  | .start => exact ⟨ControlKept.commandFrame rfl (.inl rfl) (.inl rfl), .inl rfl, rfl⟩
  | .bits f 0 => exact afterField_frame f hbusy
  | .bits f (n + 1) =>
    cases hfree : writeBlocked s with
    | true =>
      rw [writeEvent, if_pos hfree]
      exact ⟨ControlKept.commandFrame rfl (.inl rfl) (.inl rfl), .inl rfl, rfl⟩
    | false =>
      rw [writeEvent, if_neg (hfree ▸ Bool.false_ne_true)]
      exact ⟨ControlKept.commandFrame rfl (.inl rfl) (outKeptOrPushed_writeBit hfree _), .inl rfl, rfl⟩
  | .scan k => exact scanSymbol_frame k s

theorem runningOf_eq_writeHeader {q : Seq} (h : runningOf q = some .writeHeader) : ∃ p, q = .writeHeader p := by
  cases q <;> cases h
  exact ⟨_, rfl⟩

theorem exec_writeHeader_frame {s t : State} (h : exec .writeHeader s = .next t) :
    CommandFrame .writeHeader .headerWritten s t ∧ WriteHeaderWritesOnly s t := by
  refine exec_frame h ?_ fun hbusy hrun => ?_
  · unfold WriteHeaderWritesOnly
    rw [offer_frame]
    exact ⟨.inl rfl, rfl⟩
  · obtain ⟨p, hseq⟩ := runningOf_eq_writeHeader hrun
    rw [exec_writeHeader_running hbusy hseq] at h
    cases h
    exact writeEvent_frame p hbusy

/-- Settles O28: by the points of WRITE_HEADER, and its acceptance. -/
theorem writeHeaderFrame : Obligations.WriteHeaderFrame := by
  intro s t h
  obtain ⟨hframe, hcount, ht⟩ := exec_writeHeader_frame h
  refine ⟨hframe, ?_⟩
  rw [ht]
  exact ⟨⟨rfl, rfl⟩, ⟨rfl, rfl, rfl⟩, ⟨rfl, rfl⟩, rfl, ⟨rfl, rfl⟩, ⟨rfl, rfl, rfl⟩, ⟨rfl, rfl⟩, hcount⟩

/-! ## READ_HEADER -/

/-- t differs from s at most in the control state, the input FIFO, the bit reader, the decoder table and PAYLOAD_COUNT:
all that an acceptance or an event of READ_HEADER writes (R110, R195). -/
def ReadHeaderWritesOnly (s t : State) : Prop :=
  t = { s with
    cmdWord := t.cmdWord, busy := t.busy, fault := t.fault, cmdIgn := t.cmdIgn, phase := t.phase,
    faultCode := t.faultCode, faultInfo := t.faultInfo, intStatus := t.intStatus, progress := t.progress,
    seq := t.seq, inFifo := t.inFifo, brBuf := t.brBuf, brCnt := t.brCnt, dtab := t.dtab, dnum := t.dnum,
    payloadCount := t.payloadCount }

theorem startRead_frame (f : RField) (s : State) :
    CommandFrame .readHeader .headerRead s (startRead f s) ∧ ReadHeaderWritesOnly s (startRead f s) :=
  ⟨ControlKept.commandFrame rfl (.inl rfl) (.inl rfl), rfl⟩

theorem readHeader_raiseFault_frame (code : FaultCode) (hcode : code ≠ .none) (info : Word) (s : State) :
    CommandFrame .readHeader .headerRead s (raiseFault code info s) ∧
      ReadHeaderWritesOnly s (raiseFault code info s) :=
  have hkept : ControlKept s s := rfl
  ⟨hkept.commandFrame_raiseFault hcode info (.inl rfl) (.inl rfl), rfl⟩

theorem afterCode_frame (e : Byte) (n : Nat) (sym : Byte) (len : BitVec 5) (val : BitVec 31) (s : State) :
    CommandFrame .readHeader .headerRead s (afterCode e n sym len val s) ∧
      ReadHeaderWritesOnly s (afterCode e n sym len val s) := by
  unfold afterCode
  split
  · exact readHeader_raiseFault_frame .duplicateCode nofun _ s
  · split <;> exact ⟨ControlKept.commandFrame rfl (.inl rfl) (.inl rfl), rfl⟩

theorem checkMagic_frame (m : List Byte) (s : State) :
    CommandFrame .readHeader .headerRead s (checkMagic m s) ∧ ReadHeaderWritesOnly s (checkMagic m s) := by
  unfold checkMagic
  split
  · exact readHeader_raiseFault_frame .badMagic nofun _ s
  · exact startRead_frame _ s

theorem afterRead_frame {s : State} (f : RField) (v : Word) (hbusy : s.busy = true) :
    CommandFrame .readHeader .headerRead s (afterRead f v s) ∧ ReadHeaderWritesOnly s (afterRead f v s) := by
  cases f with
  | magic m =>
    rw [afterRead]
    split
    · exact startRead_frame _ s
    · exact checkMagic_frame _ s
  | numEntries => exact startRead_frame _ s
  | sym e n => exact startRead_frame _ s
  | len e n sym =>
    rw [afterRead]
    split
    · exact readHeader_raiseFault_frame .badLength nofun _ s
    · exact startRead_frame _ s
  | val e n sym len => exact afterCode_frame e n sym len _ s
  | payload => exact ⟨ControlKept.commandFrame_complete rfl hbusy (.inl rfl) (.inl rfl), rfl⟩

theorem readEvent_frame {s : State} (p : ReadPt) (hbusy : s.busy = true) :
    CommandFrame .readHeader .headerRead s (readEvent p s) ∧ ReadHeaderWritesOnly s (readEvent p s) := by
  match p with
  | .start => exact ⟨ControlKept.commandFrame rfl (.inl rfl) (.inl rfl), rfl⟩
  | .bits f 0 acc => exact afterRead_frame f acc hbusy
  | .bits f (n + 1) acc =>
    obtain ⟨-, -, hbit⟩ | ⟨rest, -, hin, hbit⟩ | ⟨b, rest, -, hin, hbit⟩ | ⟨-, hbit⟩ := readBit_cases s <;>
      rw [readEvent, hbit]
    · exact ⟨ControlKept.commandFrame rfl (.inl rfl) (.inl rfl), rfl⟩
    · exact ⟨ControlKept.commandFrame rfl (.inr ⟨_, hin⟩) (.inl rfl), rfl⟩
    · exact ⟨ControlKept.commandFrame rfl (.inr ⟨_, hin⟩) (.inl rfl), rfl⟩
    · exact ⟨ControlKept.commandFrame rfl (.inl rfl) (.inl rfl), rfl⟩
  | .underflow => exact readHeader_raiseFault_frame .underflow nofun _ s

theorem runningOf_eq_readHeader {q : Seq} (h : runningOf q = some .readHeader) : ∃ p, q = .readHeader p := by
  cases q <;> cases h
  exact ⟨_, rfl⟩

theorem exec_readHeader_frame {s t : State} (h : exec .readHeader s = .next t) :
    CommandFrame .readHeader .headerRead s t ∧ ReadHeaderWritesOnly s t := by
  refine exec_frame h ?_ fun hbusy hrun => ?_
  · unfold ReadHeaderWritesOnly
    rw [offer_frame]
  · obtain ⟨p, hseq⟩ := runningOf_eq_readHeader hrun
    rw [exec_readHeader_running hbusy hseq] at h
    cases h
    exact readEvent_frame p hbusy

/-- Settles O39: by the points of READ_HEADER, and its acceptance. -/
theorem readHeaderFrame : Obligations.ReadHeaderFrame := by
  intro s t h
  obtain ⟨hframe, ht⟩ := exec_readHeader_frame h
  refine ⟨hframe, ?_⟩
  rw [ht]
  exact ⟨⟨rfl, rfl⟩, ⟨rfl, rfl, rfl⟩, ⟨rfl, rfl⟩, rfl, ⟨rfl, rfl, rfl⟩, ⟨rfl, rfl⟩⟩

end Sys2Proof.Machine

/-! PROOFS. The checks of ENCODE (spec/45_encode.md R212, R213) and what ENCODE leaves unchanged (R210;
spec/40_control.md R113). -/

namespace Sys2Proof.Machine

open Sys2Proof

/-! ## The checks of ENCODE -/

/-- "Too many", before the byte is looked up (R212). -/
theorem encodeByte_of_all_encoded {s : State} (b : Byte) (hall : s.progress = s.payloadCount) :
    encodeByte b s = raiseFault .countMismatch s.progress s := if_pos hall

theorem encodeByte_of_no_codeword {s : State} {b : Byte} (hmore : s.progress ≠ s.payloadCount)
    (hnone : tabGet s.codeLen b = 0#5) : encodeByte b s = raiseFault .symbolNotInTable (b.setWidth 32) s :=
  (if_neg hmore).trans (if_pos hnone)

theorem encodeByte_of_codeword {s : State} {b : Byte} (hmore : s.progress ≠ s.payloadCount)
    (hcode : tabGet s.codeLen b ≠ 0#5) : encodeByte b s =
      goto (.encode (.write ((tabGet s.codeVal b).setWidth 32) (tabGet s.codeLen b).toNat)) s :=
  (if_neg hmore).trans (if_neg hcode)

theorem encodeEos_of_all_encoded {s : State} (hall : s.progress = s.payloadCount) :
    encodeEos s = goto (.encode .flush) s := if_pos hall

/-- "Too few" (R212). -/
theorem encodeEos_of_missing {s : State} (hmore : s.progress ≠ s.payloadCount) :
    encodeEos s = raiseFault .countMismatch s.progress s := if_neg hmore

/-- Settles O29: the count is compared at a byte and at EOS, and at a byte the codeword is looked up after it. -/
theorem encodeChecks : Obligations.EncodeChecks := by
  refine fun s b hbusy => ⟨?_, fun hseq hmore hnone => ?_, fun hseq hmore hcode => ?_, fun hseq hall => ?_⟩
  · rintro (⟨hseq, hall⟩ | ⟨hseq, hmore⟩)
    · rw [exec_encode_running hbusy hseq, encodeEvent, encodeByte_of_all_encoded b hall]
      rfl
    · rw [exec_encode_running hbusy hseq, encodeEvent, encodeEos_of_missing hmore]
      rfl
  · rw [exec_encode_running hbusy hseq, encodeEvent, encodeByte_of_no_codeword hmore hnone, ← BitVec.ofNat_toNat]
    rfl
  · rw [exec_encode_running hbusy hseq, encodeEvent, encodeByte_of_codeword hmore hcode, ← BitVec.ofNat_toNat]
    rfl
  · rw [exec_encode_running hbusy hseq, encodeEvent, encodeEos_of_all_encoded hall]
    rfl

/-! ## The frame of ENCODE -/

/-- t differs from s at most in the control state, the two FIFOs and the bit writer: all that an acceptance or an event
of ENCODE writes (R110, R210). -/
def EncodeWritesOnly (s t : State) : Prop :=
  t = { s with
    cmdWord := t.cmdWord, busy := t.busy, fault := t.fault, cmdIgn := t.cmdIgn, phase := t.phase,
    faultCode := t.faultCode, faultInfo := t.faultInfo, intStatus := t.intStatus, progress := t.progress,
    seq := t.seq, inFifo := t.inFifo, outFifo := t.outFifo, bwBuf := t.bwBuf, bwCnt := t.bwCnt }

theorem encode_goto_frame (q : Seq) (s : State) :
    CommandFrame .encode .built s (goto q s) ∧ EncodeWritesOnly s (goto q s) :=
  ⟨ControlKept.commandFrame rfl (.inl rfl) (.inl rfl), rfl⟩

theorem encode_wait_frame (s : State) : CommandFrame .encode .built s s ∧ EncodeWritesOnly s s :=
  ⟨ControlKept.commandFrame rfl (.inl rfl) (.inl rfl), rfl⟩

theorem encode_raiseFault_frame {code : FaultCode} (hcode : code ≠ .none) (info : Word) (s : State) :
    CommandFrame .encode .built s (raiseFault code info s) ∧ EncodeWritesOnly s (raiseFault code info s) :=
  have hkept : ControlKept s s := rfl
  ⟨hkept.commandFrame_raiseFault hcode info (.inl rfl) (.inl rfl), rfl⟩

theorem encodeEos_frame (s : State) :
    CommandFrame .encode .built s (encodeEos s) ∧ EncodeWritesOnly s (encodeEos s) := by
  by_cases hall : s.progress = s.payloadCount
  · rw [encodeEos_of_all_encoded hall]
    exact encode_goto_frame _ s
  · rw [encodeEos_of_missing hall]
    exact encode_raiseFault_frame (code := .countMismatch) nofun _ s

theorem encodeByte_frame (b : Byte) (s : State) :
    CommandFrame .encode .built s (encodeByte b s) ∧ EncodeWritesOnly s (encodeByte b s) := by
  by_cases hall : s.progress = s.payloadCount
  · rw [encodeByte_of_all_encoded b hall]
    exact encode_raiseFault_frame (code := .countMismatch) nofun _ s
  · by_cases hnone : tabGet s.codeLen b = 0#5
    · rw [encodeByte_of_no_codeword hall hnone]
      exact encode_raiseFault_frame (code := .symbolNotInTable) nofun _ s
    · rw [encodeByte_of_codeword hall hnone]
      exact encode_goto_frame _ s

/-- The flush completes, pushes the padded byte where there is room, or waits (R141, R144). -/
theorem encodeFlush_frame {s : State} (hbusy : s.busy = true) :
    CommandFrame .encode .built s (encodeFlush s) ∧ EncodeWritesOnly s (encodeFlush s) := by
  have hkept : ControlKept s s := rfl
  unfold encodeFlush
  split
  · exact ⟨hkept.commandFrame_complete hbusy (.inl rfl) (.inl rfl), rfl⟩
  · split
    next hroom => exact ⟨ControlKept.commandFrame rfl (.inl rfl) (.inr ⟨_, rfl, (outRoom_iff s).1 hroom⟩), rfl⟩
    next => exact encode_wait_frame s

theorem encodeEvent_frame {s : State} (p : EncodePt) (hbusy : s.busy = true) :
    CommandFrame .encode .built s (encodeEvent p s) ∧ EncodeWritesOnly s (encodeEvent p s) := by
  match p with
  | .pop =>
    obtain ⟨-, hpop⟩ | ⟨x, rest, hin, hpop⟩ := inPop_cases s
    · simp only [encodeEvent, hpop]
      exact encode_wait_frame s
    · cases x <;> simp only [encodeEvent, hpop] <;>
        exact ⟨ControlKept.commandFrame rfl (.inr ⟨_, hin⟩) (.inl rfl), rfl⟩
  | .eos => exact encodeEos_frame s
  | .sym b => exact encodeByte_frame b s
  | .write _ 0 => exact ⟨ControlKept.commandFrame rfl (.inl rfl) (.inl rfl), rfl⟩
  | .write v (n + 1) =>
    cases hfree : writeBlocked s with
    | true =>
      rw [encodeEvent, if_pos hfree]
      exact encode_wait_frame s
    | false =>
      rw [encodeEvent, if_neg (hfree ▸ Bool.false_ne_true)]
      exact ⟨ControlKept.commandFrame rfl (.inl rfl) (outKeptOrPushed_writeBit hfree _), rfl⟩
  | .flush => exact encodeFlush_frame hbusy

theorem runningOf_eq_encode {q : Seq} (h : runningOf q = some .encode) : ∃ p, q = .encode p := by
  cases q <;> cases h
  exact ⟨_, rfl⟩

theorem exec_encode_frame {s t : State} (h : exec .encode s = .next t) :
    CommandFrame .encode .built s t ∧ EncodeWritesOnly s t := by
  refine exec_frame h ?_ fun hbusy hrun => ?_
  · unfold EncodeWritesOnly
    rw [offer_frame]
  · obtain ⟨p, hseq⟩ := runningOf_eq_encode hrun
    rw [exec_encode_running hbusy hseq] at h
    cases h
    exact encodeEvent_frame p hbusy

/-- Settles O32: by the points of ENCODE, and its acceptance. -/
theorem encodeFrame : Obligations.EncodeFrame := by
  intro s t h
  obtain ⟨hframe, ht⟩ := exec_encode_frame h
  refine ⟨hframe, ?_⟩
  rw [ht]
  exact ⟨⟨rfl, rfl⟩, ⟨rfl, rfl, rfl⟩, ⟨rfl, rfl⟩, rfl, ⟨rfl, rfl⟩, ⟨rfl, rfl, rfl⟩, ⟨rfl, rfl⟩⟩

end Sys2Proof.Machine

/-! PROOFS. The lookup of DECODE (spec/46_decode.md R220, R221, R222) and what DECODE leaves unchanged (R220;
spec/40_control.md R113). -/

namespace Sys2Proof.Machine

open Sys2Proof

/-! ## The lookup -/

/-- Entry e of the decoder table is valid and equals (ACC_LEN, ACC) (R220). -/
def EntryMatches (s : State) (e : Byte) : Prop :=
  (tabGet s.dtab e).valid = true ∧ (tabGet s.dtab e).len = s.accLen ∧ (tabGet s.dtab e).val = s.acc

/-- The test of the lookup at an index (R220). -/
theorem lookupTest_iff (s : State) (e : Nat) :
    ((tabGet s.dtab (BitVec.ofNat 8 e)).valid && entryIs s.dtab s.accLen s.acc e) = true ↔
      EntryMatches s (BitVec.ofNat 8 e) := by
  simp only [entryIs, EntryMatches, Bool.and_eq_true, beq_iff_eq]

/-- The least entry that matches is found (R221). -/
theorem lookup_eq_some {s : State} {e : Byte} (he : e.toNat < s.dnum.toNat) (hmatch : EntryMatches s e)
    (hleast : ∀ c : Byte, c.toNat < e.toNat → ¬ EntryMatches s c) : lookup s = some e.toNat := by
  refine List.find?_range_eq_some.2 ⟨?_, List.mem_range.2 he, fun j hj => ?_⟩
  · rw [lookupTest_iff, BitVec.ofNat_toNat, BitVec.setWidth_eq]
    exact hmatch
  · rw [Bool.not_eq_true', ← Bool.not_eq_true, lookupTest_iff]
    exact hleast _ (by rwa [toNat_ofNat_byte (hj.trans e.isLt)])

theorem lookup_eq_none {s : State} (hdnum : s.dnum.toNat ≤ 256)
    (hnone : ∀ c : Byte, c.toNat < s.dnum.toNat → ¬ EntryMatches s c) : lookup s = none := by
  refine List.find?_eq_none.2 fun j hj => ?_
  have hlt := List.mem_range.1 hj
  rw [lookupTest_iff]
  exact hnone _ (by rwa [toNat_ofNat_byte (hlt.trans_le hdnum)])

theorem decodeLook_of_match {s : State} {e : Byte} (hfound : lookup s = some e.toNat) :
    decodeLook s = goto (.decode (.push (tabGet s.dtab e).sym)) s := by
  simp only [decodeLook, hfound, BitVec.ofNat_toNat, BitVec.setWidth_eq]

theorem decodeLook_of_full {s : State} (hnone : lookup s = none) (hfull : s.accLen = 31#5) :
    decodeLook s = raiseFault .noMatch s.progress s := by
  rw [decodeLook, hnone]
  exact if_pos hfull

theorem decodeLook_of_more {s : State} (hnone : lookup s = none) (hmore : s.accLen ≠ 31#5) :
    decodeLook s = goto (.decode .bit) s := by
  rw [decodeLook, hnone]
  exact if_neg hmore

/-- Settles O40: the lookup goes by the least entry that matches, and without one by ACC_LEN. -/
theorem decodeLooksUp : Obligations.DecodeLooksUp := by
  intro s hbusy hseq hdnum
  rw [exec_decode_running hbusy hseq, decodeEvent]
  refine ⟨fun e he hvalid hlen hval hleast => ?_, fun hnone => ?_⟩
  · rw [decodeLook_of_match (lookup_eq_some he ⟨hvalid, hlen, hval⟩ hleast)]
    rfl
  · have hlookup := lookup_eq_none hdnum hnone
    refine ⟨fun hfull => ?_, fun hmore => ?_⟩
    · rw [decodeLook_of_full hlookup hfull]
      rfl
    · rw [decodeLook_of_more hlookup hmore]
      rfl

/-! ## The frame of DECODE -/

/-- t differs from s at most in the control state, the two FIFOs, the bit reader and the accumulator: all that an
acceptance or an event of DECODE writes (R110, R220). -/
def DecodeWritesOnly (s t : State) : Prop :=
  t = { s with
    cmdWord := t.cmdWord, busy := t.busy, fault := t.fault, cmdIgn := t.cmdIgn, phase := t.phase,
    faultCode := t.faultCode, faultInfo := t.faultInfo, intStatus := t.intStatus, progress := t.progress,
    seq := t.seq, inFifo := t.inFifo, outFifo := t.outFifo, brBuf := t.brBuf, brCnt := t.brCnt,
    acc := t.acc, accLen := t.accLen }

theorem decode_raiseFault_frame {code : FaultCode} (hcode : code ≠ .none) (info : Word) (s : State) :
    CommandFrame .decode .idle s (raiseFault code info s) ∧ DecodeWritesOnly s (raiseFault code info s) :=
  have hkept : ControlKept s s := rfl
  ⟨hkept.commandFrame_raiseFault hcode info (.inl rfl) (.inl rfl), rfl⟩

/-- The loop goes on or completes (R223). -/
theorem decodeNext_frame {s : State} (hbusy : s.busy = true) :
    CommandFrame .decode .idle s (decodeNext s) ∧ DecodeWritesOnly s (decodeNext s) := by
  have hkept : ControlKept s s := rfl
  unfold decodeNext
  split
  · exact ⟨ControlKept.commandFrame rfl (.inl rfl) (.inl rfl), rfl⟩
  · exact ⟨hkept.commandFrame_complete hbusy (.inl rfl) (.inl rfl), rfl⟩

theorem decodeLook_frame (s : State) :
    CommandFrame .decode .idle s (decodeLook s) ∧ DecodeWritesOnly s (decodeLook s) := by
  unfold decodeLook
  split
  · exact ⟨ControlKept.commandFrame rfl (.inl rfl) (.inl rfl), rfl⟩
  · split
    · exact decode_raiseFault_frame (code := .noMatch) nofun _ s
    · exact ⟨ControlKept.commandFrame rfl (.inl rfl) (.inl rfl), rfl⟩

theorem decodeEvent_frame {s : State} (p : DecodePt) (hbusy : s.busy = true) :
    CommandFrame .decode .idle s (decodeEvent p s) ∧ DecodeWritesOnly s (decodeEvent p s) := by
  cases p with
  | next => exact decodeNext_frame hbusy
  | bit =>
    obtain ⟨-, -, hbit⟩ | ⟨rest, -, hin, hbit⟩ | ⟨b, rest, -, hin, hbit⟩ | ⟨-, hbit⟩ := readBit_cases s <;>
      rw [decodeEvent, hbit]
    · exact ⟨ControlKept.commandFrame rfl (.inl rfl) (.inl rfl), rfl⟩
    · exact ⟨ControlKept.commandFrame rfl (.inr ⟨_, hin⟩) (.inl rfl), rfl⟩
    · exact ⟨ControlKept.commandFrame rfl (.inr ⟨_, hin⟩) (.inl rfl), rfl⟩
    · exact ⟨ControlKept.commandFrame rfl (.inl rfl) (.inl rfl), rfl⟩
  | look => exact decodeLook_frame s
  | push sym =>
    rw [decodeEvent]
    split
    next hroom => exact ⟨ControlKept.commandFrame rfl (.inl rfl) (.inr ⟨_, rfl, (outRoom_iff s).1 hroom⟩), rfl⟩
    next => exact ⟨ControlKept.commandFrame rfl (.inl rfl) (.inl rfl), rfl⟩
  | bump => exact ⟨ControlKept.commandFrame rfl (.inl rfl) (.inl rfl), rfl⟩
  | underflow => exact decode_raiseFault_frame (code := .underflow) nofun _ s

theorem runningOf_eq_decode {q : Seq} (h : runningOf q = some .decode) : ∃ p, q = .decode p := by
  cases q <;> cases h
  exact ⟨_, rfl⟩

theorem exec_decode_frame {s t : State} (h : exec .decode s = .next t) :
    CommandFrame .decode .idle s t ∧ DecodeWritesOnly s t := by
  refine exec_frame h ?_ fun hbusy hrun => ?_
  · unfold DecodeWritesOnly
    rw [offer_frame]
  · obtain ⟨p, hseq⟩ := runningOf_eq_decode hrun
    rw [exec_decode_running hbusy hseq] at h
    cases h
    exact decodeEvent_frame p hbusy

/-- Settles O43: by the points of DECODE, and its acceptance. -/
theorem decodeFrame : Obligations.DecodeFrame := by
  intro s t h
  obtain ⟨hframe, ht⟩ := exec_decode_frame h
  refine ⟨hframe, ?_⟩
  rw [ht]
  exact ⟨⟨rfl, rfl⟩, ⟨rfl, rfl, rfl⟩, ⟨rfl, rfl⟩, rfl, ⟨rfl, rfl⟩, ⟨rfl, rfl, rfl⟩⟩

end Sys2Proof.Machine

/-! PROOFS. A whole DECODE (spec/46_decode.md R220, R221, R223, R225): bit after bit the codeword is accumulated, a
prefix-free table has no match before its last bit, and symbol after symbol is pushed. -/

namespace Sys2Proof.Machine

open Sys2Proof

theorem engineStep_decode {s : State} {p : DecodePt} (hbusy : s.busy = true) (hseq : s.seq = .decode p) :
    engineStep s = .next (decodeEvent p s) :=
  (engineStep_running hbusy (congrArg runningOf hseq)).trans (exec_decode_running hbusy hseq)

/-! ## A prefix-free decoder table -/

/-- The decoder table holds the entries es in their order, and no others (R45). -/
structure DtabHolds (es : List (Byte × BitVec 5 × BitVec 31)) (s : State) : Prop where
  dnum : s.dnum.toNat = es.length
  entry : ∀ (e : Nat) (x : Byte × BitVec 5 × BitVec 31), es[e]? = some x →
    tabGet s.dtab (BitVec.ofNat 8 e) = { valid := true, sym := x.1, len := x.2.1, val := x.2.2 }

theorem DtabHolds.of_sameDtab {es : List (Byte × BitVec 5 × BitVec 31)} {s t : State} (h : DtabHolds es s)
    (hsame : SameDtab s t) : DtabHolds es t := by
  obtain ⟨hdtab, hdnum⟩ := hsame
  exact ⟨hdnum ▸ h.dnum, hdtab ▸ h.entry⟩

theorem DtabHolds.goto {es : List (Byte × BitVec 5 × BitVec 31)} {s : State} (h : DtabHolds es s) (q : Seq) :
    DtabHolds es (Machine.goto q s) := h.of_sameDtab ⟨rfl, rfl⟩

theorem DtabHolds.tabGet_eq {es : List (Byte × BitVec 5 × BitVec 31)} {s : State} (h : DtabHolds es s) {c : Byte}
    (hc : c.toNat < es.length) : tabGet s.dtab c =
      { valid := true, sym := es[c.toNat].1, len := es[c.toNat].2.1, val := es[c.toNat].2.2 } := by
  have hentry := h.entry c.toNat _ (List.getElem?_eq_getElem hc)
  rwa [BitVec.ofNat_toNat, BitVec.setWidth_eq] at hentry

/-- In a prefix-free table a codeword is a prefix of no other than itself (R14). -/
theorem EntriesPrefixFree.eq_of_codePrefix {es : List (Byte × BitVec 5 × BitVec 31)} (hfree : EntriesPrefixFree es)
    {i j : Nat} (hi : i < es.length) (hj : j < es.length)
    (hprefix : CodePrefix es[i].2.1.toNat es[i].2.2.toNat es[j].2.1.toNat es[j].2.2.toNat) : i = j := by
  have hpair := List.pairwise_iff_getElem.1 hfree
  obtain hlt | heq | hgt := Nat.lt_trichotomy i j
  · exact absurd hprefix (hpair i j hi hj hlt).1
  · exact heq
  · exact absurd hprefix (hpair j i hj hi hgt).2

/-! ## The accumulator -/

/-- The accumulator holds the codeword of x but for its last n bits (R49, R220). -/
structure AccHolds (n : Nat) (x : Byte × BitVec 5 × BitVec 31) (s : State) : Prop where
  acc : s.acc = x.2.2 >>> n
  accLen : s.accLen.toNat + n = x.2.1.toNat

theorem AccHolds.goto {n : Nat} {x : Byte × BitVec 5 × BitVec 31} {s : State} (h : AccHolds n x s) (q : Seq) :
    AccHolds n x (Machine.goto q s) := ⟨h.acc, h.accLen⟩

theorem ushiftRight_eq_zero_of_lt {w n : Nat} {v : BitVec w} (h : v.toNat < 2 ^ n) : v >>> n = 0#w := by
  apply BitVec.eq_of_toNat_eq
  rw [BitVec.toNat_ushiftRight, Nat.shiftRight_eq_div_pow, Nat.div_eq_of_lt h]
  rfl

theorem accHolds_accReset {x : Byte × BitVec 5 × BitVec 31} (hval : x.2.2.toNat < 2 ^ x.2.1.toNat) (s : State) :
    AccHolds x.2.1.toNat x (accReset s) :=
  ⟨(ushiftRight_eq_zero_of_lt hval).symm, Nat.zero_add _⟩

/-- One more bit of a value, shifted in below the bits above it (R145). -/
theorem shiftConcat_ushiftRight_succ (v : BitVec 31) (n : Nat) :
    (v >>> (n + 1)).shiftConcat ((v.setWidth 32).getLsbD n) = v >>> n := by
  have hbit : (v.setWidth 32).getLsbD n = v.getLsbD n := by
    rw [BitVec.getLsbD_setWidth]
    by_cases hn : n < 32
    · simp [hn]
    · simp [hn, BitVec.getLsbD_of_ge v n (by omega)]
  apply BitVec.eq_of_getLsbD_eq
  intro i hi
  rw [BitVec.getLsbD_shiftConcat, hbit]
  cases i with
  | zero => simp
  | succ i => simp [hi, show n + 1 + i = n + (i + 1) by omega]

/-- The next bit of the codeword is read and accumulated (R145, R220). -/
theorem AccHolds.accBit_dropBit {n : Nat} {x : Byte × BitVec 5 × BitVec 31} {s : State} (h : AccHolds (n + 1) x s) :
    AccHolds n x (accBit ((x.2.2.setWidth 32).getLsbD n) (dropBit s)) := by
  obtain ⟨hacc, hlen⟩ := h
  constructor
  case acc =>
    rw [← shiftConcat_ushiftRight_succ, ← hacc, ← dropBit_keeps State.acc (fun _ _ _ _ => rfl) s]
    rfl
  case accLen =>
    have hmax := x.2.1.isLt
    show ((dropBit s).accLen + 1#5).toNat + n = _
    rw [dropBit_keeps State.accLen (fun _ _ _ _ => rfl) s, BitVec.toNat_add, BitVec.toNat_ofNat]
    omega

/-- What the accumulator holds is a prefix of the codeword (R10, R14). -/
theorem AccHolds.codePrefix {n : Nat} {x : Byte × BitVec 5 × BitVec 31} {s : State} (h : AccHolds n x s) :
    CodePrefix s.accLen.toNat s.acc.toNat x.2.1.toNat x.2.2.toNat := by
  obtain ⟨hacc, hlen⟩ := h
  refine ⟨by omega, ?_⟩
  rw [hacc, BitVec.toNat_ushiftRight, Nat.shiftRight_eq_div_pow]
  congr 2
  omega

section

variable {es : List (Byte × BitVec 5 × BitVec 31)} {j n : Nat} {s : State}

/-- Only the entry of the codeword that is read can match, and only when all of its bits are there (R221). -/
theorem AccHolds.eq_of_entryMatches (hfree : EntriesPrefixFree es) (htable : DtabHolds es s) (hj : j < es.length)
    (hacc : AccHolds n es[j] s) {c : Byte} (hc : c.toNat < es.length) (hmatch : EntryMatches s c) :
    c.toNat = j ∧ n = 0 := by
  rw [EntryMatches, htable.tabGet_eq hc] at hmatch
  obtain ⟨-, hlen, hval⟩ : _ ∧ es[c.toNat].2.1 = s.accLen ∧ es[c.toNat].2.2 = s.acc := hmatch
  have hprefix := hacc.codePrefix
  rw [← hlen, ← hval] at hprefix
  obtain rfl := hfree.eq_of_codePrefix hc hj hprefix
  refine ⟨rfl, ?_⟩
  have hcount := hacc.accLen
  rw [← hlen] at hcount
  omega

/-- Before the last bit of the codeword another bit is read (R221, R222). -/
theorem decodeLook_of_accHolds_succ (hfree : EntriesPrefixFree es) (hmax : es.length ≤ 256) (htable : DtabHolds es s)
    (hj : j < es.length) (hacc : AccHolds (n + 1) es[j] s) : decodeLook s = goto (.decode .bit) s := by
  have hnone : lookup s = none := by
    refine lookup_eq_none (htable.dnum ▸ hmax) fun c hc hmatch => ?_
    exact absurd (hacc.eq_of_entryMatches hfree htable hj (htable.dnum ▸ hc) hmatch).2 (Nat.succ_ne_zero n)
  refine decodeLook_of_more hnone fun hfull => ?_
  have hcount := hacc.accLen
  have hlt := es[j].2.1.isLt
  rw [hfull, BitVec.toNat_ofNat] at hcount
  omega

/-- After the last bit of the codeword its symbol is found (R220, R221). -/
theorem decodeLook_of_accHolds_zero (hfree : EntriesPrefixFree es) (hmax : es.length ≤ 256) (htable : DtabHolds es s)
    (hj : j < es.length) (hacc : AccHolds 0 es[j] s) : decodeLook s = goto (.decode (.push es[j].1)) s := by
  have hindex : (BitVec.ofNat 8 j).toNat = j := toNat_ofNat_byte (by omega)
  have hentry := htable.entry j _ (List.getElem?_eq_getElem hj)
  have hfound : lookup s = some (BitVec.ofNat 8 j).toNat := by
    refine lookup_eq_some (by rwa [hindex, htable.dnum]) ?_ fun c hc hmatch => ?_
    · rw [EntryMatches, hentry, hacc.acc]
      exact ⟨rfl, BitVec.eq_of_toNat_eq hacc.accLen.symm, (BitVec.ushiftRight_zero _).symm⟩
    · rw [hindex] at hc
      exact absurd (hacc.eq_of_entryMatches hfree htable hj (hc.trans hj) hmatch).1 hc.ne
  rw [decodeLook_of_match hfound, hentry]

end

/-! ## Symbols decoded -/

/-- t is s after events that read some bits and push and count the symbols of xs (R220). -/
structure Decoded (xs : List (Byte × BitVec 5 × BitVec 31)) (s t : State) : Prop where
  busy : t.busy = s.busy
  fault : t.fault = s.fault
  params : t.params = s.params
  payloadCount : t.payloadCount = s.payloadCount
  table : SameDtab s t
  progress : t.progress = s.progress + BitVec.ofNat 32 xs.length
  output : t.outFifo = s.outFifo ++ xs.map (fun x => x.1)
  input : t.inFifo.length ≤ s.inFifo.length

theorem Decoded.refl (s : State) : Decoded [] s s :=
  ⟨rfl, rfl, rfl, rfl, ⟨rfl, rfl⟩, (BitVec.add_zero _).symm, (List.append_nil _).symm, Nat.le_refl _⟩

theorem Decoded.trans {xs ys : List (Byte × BitVec 5 × BitVec 31)} {s t u : State} (h : Decoded xs s t)
    (h' : Decoded ys t u) : Decoded (xs ++ ys) s u where
  busy := h'.busy.trans h.busy
  fault := h'.fault.trans h.fault
  params := h'.params.trans h.params
  payloadCount := h'.payloadCount.trans h.payloadCount
  table := ⟨h'.table.1.trans h.table.1, h'.table.2.trans h.table.2⟩
  progress := by rw [h'.progress, h.progress, List.length_append, BitVec.ofNat_add, BitVec.add_assoc]
  output := by rw [h'.output, h.output, List.map_append, List.append_assoc]
  input := h'.input.trans h.input

theorem length_inFifo_dropBit_le (s : State) : (dropBit s).inFifo.length ≤ s.inFifo.length := by
  unfold dropBit
  split
  · split
    next hin => simp [hin]
    next => exact Nat.le_refl _
  · exact Nat.le_refl _

theorem decoded_accBit_dropBit (b : Bool) (s : State) : Decoded [] s (accBit b (dropBit s)) := by
  have hkeeps {α : Type} (f : State → α)
      (h : ∀ ts buf cnt t, f { t with inFifo := ts, brBuf := buf, brCnt := cnt } = f t) :
      f (dropBit s) = f s := dropBit_keeps f h s
  exact {
    busy := hkeeps State.busy fun _ _ _ _ => rfl
    fault := hkeeps State.fault fun _ _ _ _ => rfl
    params := hkeeps State.params fun _ _ _ _ => rfl
    payloadCount := hkeeps State.payloadCount fun _ _ _ _ => rfl
    table := ⟨hkeeps State.dtab fun _ _ _ _ => rfl, hkeeps State.dnum fun _ _ _ _ => rfl⟩
    progress := (hkeeps State.progress fun _ _ _ _ => rfl).trans (BitVec.add_zero _).symm
    output := (hkeeps State.outFifo fun _ _ _ _ => rfl).trans (List.append_nil _).symm
    input := length_inFifo_dropBit_le s }

theorem decoded_accReset (s : State) : Decoded [] s (accReset s) :=
  ⟨rfl, rfl, rfl, rfl, ⟨rfl, rfl⟩, (BitVec.add_zero _).symm, (List.append_nil _).symm, Nat.le_refl _⟩

theorem decoded_outPush (x : Byte × BitVec 5 × BitVec 31) (s : State) :
    Decoded [x] s (setProgress (s.progress + 1#32) (outPush x.1 s)) :=
  ⟨rfl, rfl, rfl, rfl, ⟨rfl, rfl⟩, rfl, rfl, Nat.le_refl _⟩

/-! ## One symbol -/

/-- A bit is read, accumulated and looked up (R145, R220). -/
theorem reaches_decodeLook {b : Bool} {l : List Bool} {rest : List Token} {s : State} (hbusy : s.busy = true)
    (h : Unread (b :: l) rest s) :
    Reaches (goto (.decode .bit) s) (decodeLook (goto (.decode .look) (accBit b (dropBit s)))) := by
  have hread := engineStep_decode (s := goto (.decode .bit) s) (p := .bit) hbusy rfl
  simp only [decodeEvent, (readBit_of_unread (s := goto (.decode .bit) s) h).1] at hread
  rw [dropBit_goto] at hread
  have hbusy' : (accBit b (dropBit s)).busy = true := (decoded_accBit_dropBit b s).busy.trans hbusy
  exact .head hread (.of_step (engineStep_decode (s := goto (.decode .look) (accBit b (dropBit s))) hbusy' rfl))

/-- The symbol found is pushed and counted (R141, R220). -/
theorem reaches_next_of_push {s : State} {x : Byte × BitVec 5 × BitVec 31} (hbusy : s.busy = true)
    (hroom : outRoom s = true) :
    Reaches (goto (.decode (.push x.1)) s)
      (goto (.decode .next) (setProgress (s.progress + 1#32) (outPush x.1 s))) := by
  have hpush : decodeEvent (.push x.1) (goto (.decode (.push x.1)) s) = goto (.decode .bump) (outPush x.1 s) :=
    if_pos hroom
  exact .head ((engineStep_decode (s := goto (.decode (.push x.1)) s) hbusy rfl).trans (congrArg _ hpush))
    (.of_step (engineStep_decode (s := goto (.decode .bump) (outPush x.1 s)) hbusy rfl))

section

variable {es : List (Byte × BitVec 5 × BitVec 31)} {j n : Nat} {l : List Bool} {rest : List Token} {s : State}

/-- The last n + 1 bits of a codeword, to its OutPush (R220, R221). -/
theorem reaches_push (hfree : EntriesPrefixFree es) (hmax : es.length ≤ 256) (hj : j < es.length)
    (hbusy : s.busy = true) (htable : DtabHolds es s) (hacc : AccHolds (n + 1) es[j] s)
    (h : Unread (wordBits (es[j].2.2.setWidth 32) (n + 1) ++ l) rest s) :
    ∃ t, Reaches (goto (.decode .bit) s) (goto (.decode (.push es[j].1)) t) ∧ Decoded [] s t ∧ Unread l rest t := by
  induction n generalizing s with
  | zero =>
    have hbit := decoded_accBit_dropBit ((es[j].2.2.setWidth 32).getLsbD 0) s
    have hread := reaches_decodeLook hbusy h
    rw [decodeLook_of_accHolds_zero hfree hmax ((htable.of_sameDtab hbit.table).goto _) hj (hacc.accBit_dropBit.goto _),
      goto_goto] at hread
    exact ⟨_, hread, hbit, (readBit_of_unread h).2⟩
  | succ n ih =>
    have hbit := decoded_accBit_dropBit ((es[j].2.2.setWidth 32).getLsbD (n + 1)) s
    have hacc' := hacc.accBit_dropBit
    have htable' := htable.of_sameDtab hbit.table
    have hread := reaches_decodeLook hbusy h
    rw [decodeLook_of_accHolds_succ hfree hmax (htable'.goto _) hj (hacc'.goto _), goto_goto] at hread
    obtain ⟨t, hrun, hdecoded, hunread⟩ := ih (hbit.busy.trans hbusy) htable' hacc' (readBit_of_unread h).2
    exact ⟨t, hread.trans hrun, hbit.trans hdecoded, hunread⟩

/-- A codeword, from the test of the loop to the next one (R220, R221, R223). -/
theorem reaches_decoded (hfree : EntriesPrefixFree es) (hmax : es.length ≤ 256)
    (hfit : ∀ x ∈ es, x.2.1 ≠ 0#5 ∧ x.2.2.toNat < 2 ^ x.2.1.toNat) {x : Byte × BitVec 5 × BitVec 31} (hx : x ∈ es)
    (hbusy : s.busy = true) (htable : DtabHolds es s) (hmore : s.progress < s.payloadCount)
    (hroom : s.outFifo.length < s.params.outDepth.toNat) (h : Unread (codewordBits x.2.1 x.2.2 ++ l) rest s) :
    ∃ t, Reaches (goto (.decode .next) s) (goto (.decode .next) t) ∧ Decoded [x] s t ∧ Unread l rest t := by
  obtain ⟨hlen, hval⟩ := hfit x hx
  obtain ⟨n, hn⟩ := Nat.exists_eq_succ_of_ne_zero fun hzero => hlen (BitVec.eq_of_toNat_eq hzero)
  obtain ⟨j, hj, rfl⟩ := List.getElem_of_mem hx
  have hnext : decodeNext (goto (.decode .next) s) = goto (.decode .bit) (accReset s) := if_pos hmore
  have hstart := (engineStep_decode (s := goto (.decode .next) s) (p := .next) hbusy rfl).trans (congrArg _ hnext)
  have hreset := decoded_accReset s
  have hacc := accHolds_accReset hval s
  rw [hn] at hacc
  rw [codewordBits, hn] at h
  obtain ⟨t, hread, hdecoded, hunread⟩ :=
    reaches_push (s := accReset s) hfree hmax hj hbusy (htable.of_sameDtab hreset.table) hacc h
  have hsofar := hreset.trans hdecoded
  have hroom' : outRoom t = true := by
    rw [outRoom_iff, hsofar.output, hsofar.params]
    simpa using hroom
  exact ⟨_, .head hstart (hread.trans (reaches_next_of_push (hsofar.busy.trans hbusy) hroom')),
    hsofar.trans (decoded_outPush es[j] t), hunread⟩

end

/-! ## A whole DECODE -/

section

variable {es xs : List (Byte × BitVec 5 × BitVec 31)} {l : List Bool} {rest : List Token} {s : State}

/-- The codewords of xs, one after another (R223, R225). -/
theorem reaches_allDecoded (hfree : EntriesPrefixFree es) (hmax : es.length ≤ 256)
    (hfit : ∀ x ∈ es, x.2.1 ≠ 0#5 ∧ x.2.2.toNat < 2 ^ x.2.1.toNat) (hxs : ∀ x ∈ xs, x ∈ es)
    (hbusy : s.busy = true) (htable : DtabHolds es s)
    (hcount : s.progress.toNat + xs.length = s.payloadCount.toNat)
    (hroom : s.outFifo.length + xs.length ≤ s.params.outDepth.toNat)
    (h : Unread (xs.flatMap (fun x => codewordBits x.2.1 x.2.2) ++ l) rest s) :
    ∃ t, Reaches (goto (.decode .next) s) (goto (.decode .next) t) ∧ Decoded xs s t ∧ Unread l rest t := by
  induction xs generalizing s with
  | nil => exact ⟨s, .refl _, .refl s, h⟩
  | cons x xs ih =>
    rw [List.length_cons] at hcount hroom
    rw [List.flatMap_cons, List.append_assoc] at h
    have hmore : s.progress < s.payloadCount := BitVec.lt_def.2 (by omega)
    obtain ⟨t, hrun, hdecoded, hunread⟩ := reaches_decoded hfree hmax hfit (hxs x List.mem_cons_self) hbusy htable
      hmore (by omega) h
    have hcount' : t.progress.toNat + xs.length = t.payloadCount.toNat := by
      have hlt := s.payloadCount.isLt
      rw [hdecoded.progress, hdecoded.payloadCount, List.length_singleton, BitVec.toNat_add, BitVec.toNat_ofNat]
      omega
    have hroom' : t.outFifo.length + xs.length ≤ t.params.outDepth.toNat := by
      rw [hdecoded.output, hdecoded.params, List.length_append, List.map_singleton, List.length_singleton]
      omega
    obtain ⟨u, hrun', hdecoded', hunread'⟩ := ih (fun y hy => hxs y (List.mem_cons_of_mem x hy))
      (hdecoded.busy.trans hbusy) (htable.of_sameDtab hdecoded.table) hcount' hroom' hunread
    exact ⟨u, hrun.trans hrun', hdecoded.trans hdecoded', hunread'⟩

/-- At the test of the loop with all symbols counted DECODE completes (R115, R223). -/
theorem reaches_complete (hbusy : s.busy = true) (hall : s.progress = s.payloadCount) :
    Reaches (goto (.decode .next) s) (complete .idle s) := by
  have hend : decodeNext (goto (.decode .next) s) = complete .idle s :=
    if_neg (BitVec.not_lt.2 (BitVec.le_of_eq hall.symm))
  exact .of_step ((engineStep_decode (s := goto (.decode .next) s) (p := .next) hbusy rfl).trans (congrArg _ hend))

/-- Where no more tokens than rest are left, the unread bits are all in the reader (R145). -/
theorem Unread.of_length_inFifo_le (h : Unread l rest s) (hlen : s.inFifo.length ≤ rest.length) :
    s.inFifo = rest ∧ unreadBits s.brBuf s.brCnt = l := by
  obtain ⟨bs, hin, rfl⟩ := h
  rw [hin, List.length_append, List.length_map] at hlen
  obtain rfl : bs = [] := List.eq_nil_of_length_eq_zero (by omega)
  exact ⟨hin, (List.append_nil _).symm⟩

end

/-- Settles O42: codeword after codeword the unread bits are taken, by induction on the codewords and on the bits of
each; before the last bit nothing matches, since the table is prefix-free. -/
theorem decodeRunRecoversSymbols : Obligations.DecodeRunRecoversSymbols := by
  intro s es xs bs more rest hbusy hseq hprogress hdnum hmax hentry hfit hfree hxs hcount hbits hmore hin hroom
  have hunread : Unread (xs.flatMap (fun x => codewordBits x.2.1 x.2.2) ++ more) rest s := ⟨bs, hin, hbits.symm⟩
  obtain ⟨t, hrun, hdecoded, hleft⟩ := reaches_allDecoded hfree hmax hfit hxs hbusy ⟨hdnum, hentry⟩
    (by simpa [hprogress] using hcount.symm) hroom hunread
  have hall : t.progress = s.payloadCount := by
    rw [hdecoded.progress, hprogress, ← hcount, BitVec.ofNat_toNat, BitVec.setWidth_eq, BitVec.zero_add]
  obtain ⟨hin', hleft'⟩ : t.inFifo = rest ∧ unreadBits t.brBuf t.brCnt = more := by
    obtain rfl | hshort := hmore
    · exact hleft.of_length_inFifo_le (hdecoded.input.trans_eq (congrArg List.length hin))
    · exact hleft.of_length_lt hshort
  have hstart : goto (.decode .next) s = s := hseq ▸ rfl
  obtain ⟨n, hn⟩ := (hstart ▸ hrun).trans
    (reaches_complete (hdecoded.busy.trans hbusy) (hall.trans hdecoded.payloadCount.symm))
  exact ⟨n, _, hn, rfl, rfl, hdecoded.output, hall, hin', hleft', hdecoded.table, hdecoded.fault⟩

end Sys2Proof.Machine

/-! PROOFS. The invariant at reset (spec/70_reset_and_hazards.md R260). -/

namespace Sys2Proof.Machine

/-- Settles O58: State.reset is the reset state of Params.default, which is a legal choice. -/
theorem resetMeetsInv : Obligations.ResetMeetsInv := by
  have hdefault : Params.default.wellFormed = true := by decide
  exact ⟨fun _ hp => inv_powerOn hp, inv_powerOn hdefault⟩

end Sys2Proof.Machine
